-- ==== Sys2Proof/Word.lean ====
section
/-! DEFINITION. The one word of the block: a byte of the input stream (10_state.md R20). -/

namespace Sys2Proof

/-- A byte; bit 0 is the least significant (00_scope.md R9). -/
abbrev Byte := BitVec 8

end Sys2Proof
end

