-- ==== Sys2Proof/Machine/Checksum.lean ====
section
/-! DEFINITION. The frame's checksum: a CRC-8 over the decimal text of the three bytes before it
(30_encoding.md R67 to R72). -/

namespace Sys2Proof.Machine

/-- `header0`, 0x55 (00_scope.md R8, fixed). -/
def header0 : Byte := 0x55#8

/-- `header1`, 0xAA (00_scope.md R8, fixed). -/
def header1 : Byte := 0xAA#8

/-- `CRC_POLY`, `CRC_INIT`, `CRC_XOROUT` (00_scope.md R8). -/
def crcPoly : Byte := 0x07#8
def crcInit : Byte := 0x00#8
def crcXorOut : Byte := 0x00#8

/-- The ASCII code of the decimal digit `d` (30_encoding.md R67). -/
def digit (d : Nat) : Byte := BitVec.ofNat 8 (0x30 + d)

/-- `Dec(v)`: the decimal numeral of a byte, most significant digit first, no leading zeros (30_encoding.md R67). -/
def dec (v : Byte) : List Byte :=
  let n := v.toNat
  if n < 10 then [digit n]
  else if n < 100 then [digit (n / 10), digit (n % 10)]
  else [digit (n / 100), digit (n / 10 % 10), digit (n % 10)]

/-- The text that is checksummed for three bytes, without separators (30_encoding.md R68, R72). -/
def textOf (b0 b1 b2 : Byte) : List Byte := dec b0 ++ dec b1 ++ dec b2

/-- `Text(c)` (30_encoding.md R68). -/
def text (c : Byte) : List Byte := textOf header0 header1 c

/-- One shift of the CRC register, most significant bit first (30_encoding.md R69). -/
def crcShift (crc : Byte) : Byte :=
  if crc.msb then (crc <<< 1) ^^^ crcPoly else crc <<< 1

/-- The CRC register after one byte: the byte XORed in, then eight shifts (30_encoding.md R69). -/
def crcByte (crc x : Byte) : Byte := Nat.repeat crcShift 8 (crc ^^^ x)

/-- `CRC8(t)` (30_encoding.md R69). -/
def crc8 (t : List Byte) : Byte := t.foldl crcByte crcInit ^^^ crcXorOut

/-- `ExpectedCrc(c)` (30_encoding.md R70). -/
def expectedCrc (c : Byte) : Byte := crc8 (text c)

end Sys2Proof.Machine
end

