-- ==== Sys2Proof/Syntax.lean ====
section
/-! DEFINITION. The instructions of the block: the 27 rows of spec/opcode_table.json (30_encoding.md R73). -/

namespace Sys2Proof

/-- One constructor per row of the opcode table. The two header bytes and the segment values are whole encodings;
a frame has its control and checksum bytes as operands. -/
inductive Instr where
  /-- `HDR0`: the byte 0x55 taken as header0 (40_frame_decoder.md R81). -/
  | hdr0
  /-- `HDR1`: the byte 0xAA taken as header1 (R83). -/
  | hdr1
  /-- `FRAME`: the four bytes 0x55 0xAA control checksum (R86, R87). -/
  | frame (control checksum : Byte)
  /-- `NODE_NORMAL`: node segment 0x00 (41_segment_mapping.md R101). -/
  | nodeNormal
  /-- `NODE_SYNC`: 0x40 (R102). -/
  | nodeSync
  /-- `NODE_ERROR`: 0xC0 (R103). -/
  | nodeError
  /-- `NODE_UNDEF`: 0x80 (R104). -/
  | nodeUndef
  /-- `STOR_NORMAL`: storage segment 0x00 (R105). -/
  | storNormal
  /-- `STOR_RECOVERING`: 0x10 (R106). -/
  | storRecovering
  /-- `STOR_ERROR`: 0x30 (R107). -/
  | storError
  /-- `STOR_UNDEF`: 0x20 (R108). -/
  | storUndef
  /-- `NET_NORMAL`: network segment 0 (R109). -/
  | netNormal
  /-- `NET_RECOVERING`: 15 (R110). -/
  | netRecovering
  /-- `NET_ERROR_P1`: 1 (R111). -/
  | netErrorP1
  /-- `NET_ERROR_P2`: 2 (R112). -/
  | netErrorP2
  /-- `NET_ERROR_P3`: 4 (R113). -/
  | netErrorP3
  /-- `NET_ERROR_P4`: 8 (R114). -/
  | netErrorP4
  /-- `NET_UNDEF_3` (R115, as are the nine after it). -/
  | netUndef3
  /-- `NET_UNDEF_5`. -/
  | netUndef5
  /-- `NET_UNDEF_6`. -/
  | netUndef6
  /-- `NET_UNDEF_7`. -/
  | netUndef7
  /-- `NET_UNDEF_9`. -/
  | netUndef9
  /-- `NET_UNDEF_10`. -/
  | netUndef10
  /-- `NET_UNDEF_11`. -/
  | netUndef11
  /-- `NET_UNDEF_12`. -/
  | netUndef12
  /-- `NET_UNDEF_13`. -/
  | netUndef13
  /-- `NET_UNDEF_14`. -/
  | netUndef14
deriving DecidableEq, Repr

end Sys2Proof
end

