-- ==== Sys2Proof/Decode.lean ====
section
/-! DEFINITION. Decoding and encoding (30_encoding.md R60 to R66, R73, R74). A byte means different things in
different places (10_state.md R36 (a)), so the decoder is told which format it reads: a header byte, a frame, or one
segment of a control byte. It is total and refuses by name. -/

namespace Sys2Proof

open Machine (header0 header1)

/-- What a byte string is read as: the formats BYTE8, FRAME32 and, for CTRL8, the segment (30_encoding.md R73). -/
inductive Format where
  | header0
  | header1
  | frame
  | node
  | storage
  | network
deriving DecidableEq, Repr

/-- Why a byte string is no instruction of its format. -/
inductive DecodeError where
  /-- The bytes end before the instruction does. -/
  | tooShort
  /-- The byte read as header0 is not 0x55 (a sync error, 40_frame_decoder.md R82). -/
  | notHeader0 (b : Byte)
  /-- The byte read as header1 is not 0xAA (a sync error, 40_frame_decoder.md R84). -/
  | notHeader1 (b : Byte)
deriving DecidableEq, Repr

/-- The segment masks (30_encoding.md R61). -/
def nodeMask : Byte := 0xC0#8
def storageMask : Byte := 0x30#8
def networkMask : Byte := 0x0F#8

/-- The node row of a control byte, by its raw value (30_encoding.md R62, R63). -/
def nodeRow (c : Byte) : Instr :=
  match (c &&& nodeMask).toNat with
  | 0 => .nodeNormal
  | 64 => .nodeSync
  | 192 => .nodeError
  | _ => .nodeUndef        -- 128, the one value left (30_encoding.md R74)

/-- The storage row of a control byte, by its raw value (30_encoding.md R62, R64). -/
def storageRow (c : Byte) : Instr :=
  match (c &&& storageMask).toNat with
  | 0 => .storNormal
  | 16 => .storRecovering
  | 48 => .storError
  | _ => .storUndef        -- 32, the one value left

/-- The network row of a control byte, by its raw value (30_encoding.md R62, R65). -/
def networkRow (c : Byte) : Instr :=
  match (c &&& networkMask).toNat with
  | 0 => .netNormal
  | 1 => .netErrorP1
  | 2 => .netErrorP2
  | 4 => .netErrorP3
  | 8 => .netErrorP4
  | 3 => .netUndef3
  | 5 => .netUndef5
  | 6 => .netUndef6
  | 7 => .netUndef7
  | 9 => .netUndef9
  | 10 => .netUndef10
  | 11 => .netUndef11
  | 12 => .netUndef12
  | 13 => .netUndef13
  | 14 => .netUndef14
  | _ => .netRecovering    -- 15, the one value left

/-- The instruction at the front of a byte string read in a format, and the bytes after it. -/
def decode (f : Format) (bytes : List Byte) : Except DecodeError (Instr × List Byte) :=
  match f with
  | .header0 =>
    match bytes with
    | [] => .error .tooShort
    | b :: rest => if b = header0 then .ok (.hdr0, rest) else .error (.notHeader0 b)
  | .header1 =>
    match bytes with
    | [] => .error .tooShort
    | b :: rest => if b = header1 then .ok (.hdr1, rest) else .error (.notHeader1 b)
  | .frame =>
    match bytes with
    | b0 :: b1 :: c :: k :: rest =>
      if b0 ≠ header0 then .error (.notHeader0 b0)
      else if b1 ≠ header1 then .error (.notHeader1 b1)
      else .ok (.frame c k, rest)
    | _ => .error .tooShort
  | .node =>
    match bytes with
    | [] => .error .tooShort
    | c :: rest => .ok (nodeRow c, rest)
  | .storage =>
    match bytes with
    | [] => .error .tooShort
    | c :: rest => .ok (storageRow c, rest)
  | .network =>
    match bytes with
    | [] => .error .tooShort
    | c :: rest => .ok (networkRow c, rest)

/-- The format an instruction is written in (30_encoding.md R73). -/
def formatOf (i : Instr) : Format :=
  match i with
  | .hdr0 => .header0
  | .hdr1 => .header1
  | .frame _ _ => .frame
  | .nodeNormal | .nodeSync | .nodeError | .nodeUndef => .node
  | .storNormal | .storRecovering | .storError | .storUndef => .storage
  | .netNormal | .netRecovering | .netErrorP1 | .netErrorP2 | .netErrorP3 | .netErrorP4
  | .netUndef3 | .netUndef5 | .netUndef6 | .netUndef7 | .netUndef9
  | .netUndef10 | .netUndef11 | .netUndef12 | .netUndef13 | .netUndef14 => .network

/-- The mask of a format's byte: the bits its rows fix or, for a frame, carry (30_encoding.md R61, R73). -/
def formatMask (f : Format) : Byte :=
  match f with
  | .header0 | .header1 | .frame => 0xFF#8
  | .node => nodeMask
  | .storage => storageMask
  | .network => networkMask

/-- The bytes of an instruction in wire order; a segment row with the bits of the other segments zero
(30_encoding.md R60, R63 to R65). -/
def encode (i : Instr) : List Byte :=
  match i with
  | .hdr0 => [0x55#8]
  | .hdr1 => [0xAA#8]
  | .frame c k => [0x55#8, 0xAA#8, c, k]
  | .nodeNormal => [0x00#8]
  | .nodeSync => [0x40#8]
  | .nodeError => [0xC0#8]
  | .nodeUndef => [0x80#8]
  | .storNormal => [0x00#8]
  | .storRecovering => [0x10#8]
  | .storError => [0x30#8]
  | .storUndef => [0x20#8]
  | .netNormal => [0x00#8]
  | .netRecovering => [0x0F#8]
  | .netErrorP1 => [0x01#8]
  | .netErrorP2 => [0x02#8]
  | .netErrorP3 => [0x04#8]
  | .netErrorP4 => [0x08#8]
  | .netUndef3 => [0x03#8]
  | .netUndef5 => [0x05#8]
  | .netUndef6 => [0x06#8]
  | .netUndef7 => [0x07#8]
  | .netUndef9 => [0x09#8]
  | .netUndef10 => [0x0A#8]
  | .netUndef11 => [0x0B#8]
  | .netUndef12 => [0x0C#8]
  | .netUndef13 => [0x0D#8]
  | .netUndef14 => [0x0E#8]

/-- The four wire bytes of a frame word: byte 0 is bits 31:24 (30_encoding.md R77). -/
def frameBytes (w : Nat) : List Byte :=
  [BitVec.ofNat 8 (w / 0x1000000), BitVec.ofNat 8 (w / 0x10000), BitVec.ofNat 8 (w / 0x100), BitVec.ofNat 8 w]

/-- The frame word of a list of wire bytes, the first byte most significant (30_encoding.md R77). -/
def wordOf (bytes : List Byte) : Nat := bytes.foldl (fun w b => w * 0x100 + b.toNat) 0

/-- The format a table word of one byte is read in. The opcode table's byte rows overlap (30_encoding.md R73, R74):
a header byte is read as that header, any other byte as the row of the segment whose bits are not all zero, the
network's before the storage's before the node's, and the byte 0x00 as a node row. DESIGN CHOICE, log entry 5; no step
of the machine reads a byte this way. -/
def tableByteFormat (b : Byte) : Format :=
  if b = header0 then .header0
  else if b = header1 then .header1
  else if b &&& networkMask ≠ 0 then .network
  else if b &&& storageMask ≠ 0 then .storage
  else .node

/-- The instruction the decoder reads from a word of the opcode table: one byte for BYTE8 and CTRL8, four for
FRAME32. -/
def decodeTableWord (nbits w : Nat) : Option Instr :=
  match nbits with
  | 8 =>
    match decode (tableByteFormat (BitVec.ofNat 8 w)) [BitVec.ofNat 8 w] with
    | .ok (i, _) => some i
    | .error _ => none
  | 32 =>
    match decode .frame (frameBytes w) with
    | .ok (i, _) => some i
    | .error _ => none
  | _ => none

end Sys2Proof
end

