-- ==== Sys2Proof/Config.lean ====
section
/-! DEFINITION. The build parameters of 00_scope.md R8 and the configuration inputs of 10_state.md R21,
as plain records: a state carries one of each, so that statements hold for every value of them. -/

namespace Sys2Proof

/-- `UART_ERROR_POLICY` (00_scope.md R8, OPEN; 92_eei_decisions.md D3): what the external receiver does with a
character received with a parity or framing error. -/
inductive UartErrorPolicy where
  | dropCharacter
  | deliverCharacter
  | raiseIoErr
deriving DecidableEq, Repr, Inhabited

/-- The settings of the external receiver (00_scope.md R8; 92_eei_decisions.md D37). No rule of the block reads them. -/
structure UartSettings where
  baud : Nat
  dataBits : Nat
  evenParity : Bool
  stopBits : Nat
  errorPolicy : UartErrorPolicy
deriving DecidableEq, Repr

/-- One polling interval, in ticks, for each animator (00_scope.md R8). -/
structure Intervals where
  node : Nat
  net : Nat
  stor : Nat
deriving DecidableEq, Repr

/-- The values fixed when the block is built (00_scope.md R8). `T_SLOW`, `T_FAST` and `TMR_WIDTH` follow from them
(`Machine.tSlow`, `Machine.tFast`, `Machine.tmrWidth`). -/
structure Params where
  /-- `NUM_GPIO`, at least 9. -/
  numGpio : Nat
  /-- `TICK_HZ`, a multiple of 10. -/
  tickHz : Nat
  /-- `T_BADPORT`, at least 1. -/
  tBadPort : Nat
  /-- `CNT_WIDTH`. -/
  cntWidth : Nat
  /-- The `T_INT_NODE`, `T_INT_NET` and `T_INT_STOR` that the timers are sized for (42_animator_engine.md R128; log
  entry 4). -/
  sizedFor : Intervals
  /-- `REEXAMINE_H1` (92_eei_decisions.md D4). -/
  reexamineH1 : Bool
  uart : UartSettings
deriving DecidableEq, Repr

/-- The three pin numbers `PIN_ID[u][*]` of one subsystem (10_state.md R21). -/
structure PinIds where
  norm : Nat
  err : Nat
  aux : Nat
deriving DecidableEq, Repr

/-- The static configuration inputs (10_state.md R21). -/
structure Cfg where
  node : PinIds
  net : PinIds
  stor : PinIds
  lightLevel : Bool
  darkLevel : Bool
  tIntNode : Nat
  tIntNet : Nat
  tIntStor : Nat
deriving DecidableEq, Repr

/-- How many pins beyond nine the board gives (`NUM_GPIO` is OPEN, 92_eei_decisions.md D38). Log entry 3. -/
opaque Config.numGpioAbove : Nat

/-- The receiver's policy of the machine `State.reset` describes (OPEN, 92_eei_decisions.md D3). Log entry 3. -/
opaque Config.uartErrorPolicy : UartErrorPolicy

/-- The parameters of `State.reset`: the defaults of 00_scope.md R8, the OPEN ones left free. -/
def Config.params : Params :=
  { numGpio := Config.numGpioAbove + 9
    tickHz := 10
    tBadPort := 5
    cntWidth := 16
    sizedFor := { node := 5, net := 5, stor := 5 }
    reexamineH1 := false
    uart := { baud := 115200, dataBits := 8, evenParity := true, stopBits := 1,
              errorPolicy := Config.uartErrorPolicy } }

/-- The configuration of `State.reset`: the intervals are the defaults of 00_scope.md R8; the pins and the levels
are those of CFG0 (95_test_vectors.md section 0), a DESIGN CHOICE (log entry 2, unsafe). -/
def Config.cfg : Cfg :=
  { node := { norm := 0, err := 1, aux := 2 }
    net := { norm := 3, err := 4, aux := 5 }
    stor := { norm := 6, err := 7, aux := 8 }
    lightLevel := true
    darkLevel := false
    tIntNode := 5
    tIntNet := 5
    tIntStor := 5 }

end Sys2Proof
end

