-- ==== Sys2Proof/Machine/State.lean ====
section
/-! DEFINITION. The state of the block: every register of 10_state.md R23 to R33, with the static inputs and the
inputs of the cycles to come, as plain data. -/

namespace Sys2Proof.Machine

/-- `MODE` (10_state.md R23). `code3` is the code that is never written; a step refuses it. -/
inductive Mode where
  | check
  | run
  | halt
  | code3
deriving DecidableEq, Repr

/-- `HALT_CAUSE` (10_state.md R24). -/
inductive HaltCause where
  | none
  | shutdown
  | ioError
  | configError
deriving DecidableEq, Repr

/-- `DEC_ST` (10_state.md R25). -/
inductive DecSt where
  | hunt
  | h1
  | ctrl
  | csum
deriving DecidableEq, Repr

/-- `NODE_ST` (10_state.md R27). -/
inductive NodeSt where
  | normal
  | sync
  | error
  | code3
deriving DecidableEq, Repr

/-- `STOR_ST` (10_state.md R28). -/
inductive StorSt where
  | normal
  | recovering
  | error
  | code3
deriving DecidableEq, Repr

/-- `NET_ST` (10_state.md R29). -/
inductive NetSt where
  | normal
  | recovering
  | error
  | code3
deriving DecidableEq, Repr

/-- The network cell: `NET_ST` and `NET_PORT`, read and written as one (10_state.md R29). -/
structure NetCell where
  st : NetSt
  port : BitVec 3
deriving DecidableEq, Repr

/-- `PH_a` (10_state.md R33). -/
inductive Phase where
  | sample
  | wait
deriving DecidableEq, Repr

/-- The three bits `LIT[u][*]` of one subsystem, true for lit (10_state.md R32). -/
structure Pins where
  norm : Bool
  err : Bool
  aux : Bool
deriving DecidableEq, Repr

/-- The registers of one animator (10_state.md R32, R33); `σ` is what its store cell holds. `tmr` is `TMR_WIDTH` bits
wide, and the invariant says that it fits. -/
structure Anim (σ : Type) where
  ph : Phase
  cur : σ
  stg : BitVec 4
  tmr : Nat
  lit : Pins
deriving DecidableEq, Repr

/-- The inputs of one cycle (10_state.md R20, R21). `rx` is `rx_data` where `rx_valid` is 1, and `none` where it is
0, since the data are then ignored. `cfg` is `none` where the configuration inputs keep their values. -/
structure CycleIn where
  rst : Bool
  rx : Option Byte
  ioErr : Bool
  shutdown : Bool
  tick : Bool
  cfg : Option Cfg
deriving DecidableEq, Repr

/-- The state of the block. The registers are those of 10_state.md R23 to R33, which is all it has (R38). `params`,
`cfg` and `stim` are the model's carriers of what stands outside the registers: the build parameters, the static
inputs, and the inputs of the cycles to come (log entries 1 and 2). -/
structure State where
  /-- The build parameters (00_scope.md R8); no step writes them. -/
  params : Params
  /-- The configuration inputs (10_state.md R21). -/
  cfg : Cfg
  /-- The inputs of the cycles to come, the next cycle's first; after the last, every input is 0. -/
  stim : List CycleIn
  /-- `MODE` (R23). -/
  mode : Mode
  /-- `HALT_CAUSE` (R24). -/
  haltCause : HaltCause
  /-- `DEC_ST` (R25). -/
  decSt : DecSt
  /-- `CTRL_LATCH` (R26). -/
  ctrlLatch : Byte
  /-- `NODE_ST` (R27). -/
  nodeSt : NodeSt
  /-- `STOR_ST` (R28). -/
  storSt : StorSt
  /-- `NET_ST` and `NET_PORT` (R29). -/
  netCell : NetCell
  /-- `CNT_SYNC` (R31), `CNT_WIDTH` bits as are the three after it. -/
  cntSync : Nat
  /-- `CNT_CSUM` (R31). -/
  cntCsum : Nat
  /-- `CNT_OK` (R31). -/
  cntOk : Nat
  /-- `CNT_UNDEF` (R31). -/
  cntUndef : Nat
  /-- The node animator (R32, R33). -/
  node : Anim NodeSt
  /-- The network animator (R32, R33). -/
  net : Anim NetCell
  /-- The storage animator (R32, R33). -/
  stor : Anim StorSt
deriving DecidableEq, Repr

/-- What stops the machine with a fault: nothing. The spec says that none of the block's behaviours is a fault or a
stuck state (93_implementation_defined.md section 2), so this type has no constructor. Safe. -/
inductive Fault where
deriving DecidableEq, Repr

/-- What the spec has a model refuse. No state reachable from reset raises any of these but `configChanged`, which
the stimulus itself causes. -/
inductive Refusal where
  /-- An instruction without a meaning, raised by `exec`; no arm of it does. Safe. -/
  | notModelled (mnemonic : String)
  /-- `MODE` holds 3 in a cycle without reset (10_state.md R23; 93_implementation_defined.md S4), raised by
  `clockCycle`. Safe: the spec asks for it. -/
  | modeCode3
  /-- The stimulus changes a configuration input in a cycle without reset (46_orchestrator.md R180; S7), raised by
  `clockCycle`. Safe: the spec asks for it. -/
  | configChanged
  /-- The node animator needs the program of code 3 (43_node_animator.md R143; S3), raised by `stepAnim`. Safe: the
  spec asks for it. -/
  | nodeCode3
  /-- The storage animator needs the program of code 3 (45_storage_animator.md R163; S3), raised by `stepAnim`. Safe. -/
  | storCode3
  /-- The network animator needs the program of code 3 (44_network_animator.md R154; S3), raised by `stepAnim`. Safe. -/
  | netCode3
  /-- An animator in WAIT counts a tick on a timer of 0 (42_animator_engine.md R124; S5), raised by `stepAnim`. Safe:
  the spec allows it. -/
  | timerZero
deriving DecidableEq, Repr

/-- A cycle in which every input is 0 (30_encoding.md R75). -/
def CycleIn.idle : CycleIn :=
  { rst := false, rx := none, ioErr := false, shutdown := false, tick := false, cfg := none }

/-- All three pins dark (10_state.md R32). -/
def Pins.dark : Pins := { norm := false, err := false, aux := false }

/-- An animator's registers at reset, for the cell value `Normal` (70_reset_and_hazards.md R210). -/
def Anim.atReset {σ : Type} (normal : σ) : Anim σ :=
  { ph := .sample, cur := normal, stg := 0#4, tmr := 0, lit := Pins.dark }

/-- The network cell `Normal` with no port (10_state.md R29). -/
def NetCell.normal : NetCell := { st := .normal, port := 0#3 }

/-- Every register at the value 70_reset_and_hazards.md R210 gives, under given parameters, configuration inputs and
inputs to come. -/
def State.atReset (p : Params) (c : Cfg) (stim : List CycleIn) : State :=
  { params := p
    cfg := c
    stim := stim
    mode := .check
    haltCause := .none
    decSt := .hunt
    ctrlLatch := 0x00#8
    nodeSt := .normal
    storSt := .normal
    netCell := NetCell.normal
    cntSync := 0
    cntCsum := 0
    cntOk := 0
    cntUndef := 0
    node := Anim.atReset .normal
    net := Anim.atReset NetCell.normal
    stor := Anim.atReset .normal }

/-- The machine right after reset (70_reset_and_hazards.md R210), with the default parameters and CFG0 (log entries
2 and 3), and nothing on its inputs (log entry 1). -/
def State.reset : State := State.atReset Config.params Config.cfg []

end Sys2Proof.Machine
end

