-- ==== Sys2Proof/Machine/Flags.lean ====
section
/-! DEFINITION. The block has no condition codes (10_state.md R37). What it counts and shows in their place: the four
wrapping counters (R31) and the status bits (R22, R37). -/

namespace Sys2Proof.Machine

/-- A counter one higher, modulo `2^CNT_WIDTH` (10_state.md R31). -/
def bump (p : Params) (n : Nat) : Nat := (n + 1) % 2 ^ p.cntWidth

/-- `CNT_SYNC` + 1 (40_frame_decoder.md R82, R84). -/
def countSync (s : State) : State := { s with cntSync := bump s.params s.cntSync }

/-- `CNT_CSUM` + 1 (40_frame_decoder.md R87). -/
def countCsum (s : State) : State := { s with cntCsum := bump s.params s.cntCsum }

/-- `CNT_OK` + 1 (40_frame_decoder.md R86). -/
def countOk (s : State) : State := { s with cntOk := bump s.params s.cntOk }

/-- `CNT_UNDEF` + 1, for one undefined segment (41_segment_mapping.md R104, R108, R115, R116). -/
def countUndef (s : State) : State := { s with cntUndef := bump s.params s.cntUndef }

/-- `halted` (46_orchestrator.md R177). -/
def halted (s : State) : Bool := decide (s.mode = .halt)

/-- `error_exit` (46_orchestrator.md R177). -/
def errorExit (s : State) : Bool := decide (s.haltCause = .ioError ∨ s.haltCause = .configError)

/-- The code of `HALT_CAUSE`, shown as `halt_cause` (10_state.md R22, R24). -/
def haltCauseCode (c : HaltCause) : BitVec 2 :=
  match c with
  | .none => 0#2
  | .shutdown => 1#2
  | .ioError => 2#2
  | .configError => 3#2

/-- The code of `MODE` (10_state.md R23). -/
def modeCode (m : Mode) : BitVec 2 :=
  match m with
  | .check => 0#2
  | .run => 1#2
  | .halt => 2#2
  | .code3 => 3#2

/-- The code of `DEC_ST` (10_state.md R25). -/
def decStCode (d : DecSt) : BitVec 2 :=
  match d with
  | .hunt => 0#2
  | .h1 => 1#2
  | .ctrl => 2#2
  | .csum => 3#2

/-- The code of `NODE_ST` (10_state.md R27). -/
def nodeCode (v : NodeSt) : BitVec 2 :=
  match v with
  | .normal => 0#2
  | .sync => 1#2
  | .error => 2#2
  | .code3 => 3#2

/-- The code of `STOR_ST` (10_state.md R28). -/
def storCode (v : StorSt) : BitVec 2 :=
  match v with
  | .normal => 0#2
  | .recovering => 1#2
  | .error => 2#2
  | .code3 => 3#2

/-- The code of `NET_ST` (10_state.md R29). -/
def netCode (v : NetSt) : BitVec 2 :=
  match v with
  | .normal => 0#2
  | .recovering => 1#2
  | .error => 2#2
  | .code3 => 3#2

/-- The code of `PH_a` (10_state.md R33). -/
def phaseCode (p : Phase) : BitVec 1 :=
  match p with
  | .sample => 0#1
  | .wait => 1#1

end Sys2Proof.Machine
end

