-- ==== Sys2Proof/Machine/Operands.lean ====
section
/-! DEFINITION. What the operations read and the pin bits they act on: the store cells (20_memory.md R43) and the pin
actions of an animator's stage (42_animator_engine.md R121). -/

namespace Sys2Proof.Machine

/-- StoreRead of the node cell: its start-of-cycle value (20_memory.md R43). -/
def readNode (s : State) : NodeSt := s.nodeSt

/-- StoreRead of the storage cell (20_memory.md R43). -/
def readStor (s : State) : StorSt := s.storSt

/-- StoreRead of the network cell, both halves at once (20_memory.md R43). -/
def readNet (s : State) : NetCell := s.netCell

/-- The role of a pin within its subsystem (00_scope.md section 6; 10_state.md R21). -/
inductive Role where
  | norm
  | err
  | aux
deriving DecidableEq, Repr

/-- `Lit(p)`: the animator's own bit of the pin, not the pad (42_animator_engine.md R121). -/
def litOf (l : Pins) (r : Role) : Bool :=
  match r with
  | .norm => l.norm
  | .err => l.err
  | .aux => l.aux

/-- `L[p := b]` (42_animator_engine.md R121). -/
def setPin (l : Pins) (r : Role) (b : Bool) : Pins :=
  match r with
  | .norm => { l with norm := b }
  | .err => { l with err := b }
  | .aux => { l with aux := b }

/-- The pin actions of a stage, a list whose conditions hold lists of their own (42_animator_engine.md R121). -/
inductive Actions where
  | done
  | setLit (r : Role) (rest : Actions)
  | setDark (r : Role) (rest : Actions)
  | ifLit (r : Role) (body rest : Actions)
  | ifDark (r : Role) (body rest : Actions)
deriving DecidableEq, Repr

/-- `Exec(A, L)`: the actions in the order written, each condition reading the bits as the actions before it left
them (42_animator_engine.md R121). -/
def runActions (a : Actions) (l : Pins) : Pins :=
  match a with
  | .done => l
  | .setLit r rest => runActions rest (setPin l r true)
  | .setDark r rest => runActions rest (setPin l r false)
  | .ifLit r body rest => runActions rest (if litOf l r then runActions body l else l)
  | .ifDark r body rest => runActions rest (if litOf l r then l else runActions body l)

end Sys2Proof.Machine
end

