-- ==== Sys2Proof/Machine/Ops.lean ====
section
/-! DEFINITION. The shared operations: sequencing, the writes of the state store (20_memory.md R42), halt entry
(60_exceptions.md R194), which is how this block takes an exception, and reset (70_reset_and_hazards.md R210), which is
the only return from one (60_exceptions.md R195). -/

namespace Sys2Proof.Machine

/-- The outcome of an operation on the state. -/
abbrev Result := Host.Outcome State Fault Refusal

/-- One operation and then another on the state it left; a stop ends both. -/
def andThen (r : Result) (f : State → Result) : Result :=
  match r with
  | .next s => f s
  | .fault x => .fault x
  | .refused x => .refused x

/-- StoreWrite of the node cell (20_memory.md R42). -/
def writeNode (v : NodeSt) (s : State) : State := { s with nodeSt := v }

/-- StoreWrite of the storage cell (20_memory.md R42). -/
def writeStor (v : StorSt) (s : State) : State := { s with storSt := v }

/-- StoreWrite of the network cell: `NET_ST` and `NET_PORT` as one (20_memory.md R42; 10_state.md R29). -/
def writeNet (v : NetSt) (port : BitVec 3) (s : State) : State := { s with netCell := { st := v, port := port } }

/-- `DEC_ST <- d`. -/
def setDecSt (d : DecSt) (s : State) : State := { s with decSt := d }

/-- `raise Halt(cause)`: MODE and HALT_CAUSE, and no other register (60_exceptions.md R194). -/
def raiseHalt (cause : HaltCause) (s : State) : State := { s with mode := .halt, haltCause := cause }

/-- The effect of a cycle with `rst = 1` on the registers: all of them at their reset values
(70_reset_and_hazards.md R210), the only way out of HALT (60_exceptions.md R195). -/
def resetRegs (s : State) : State := State.atReset s.params s.cfg s.stim

end Sys2Proof.Machine
end

