-- ==== Sys2Proof/Machine/FrameDecoder.lean ====
section
/-! DEFINITION. The decoder's operations on one byte that need no segment decode: the two header rows of the opcode
table (40_frame_decoder.md R81, R83) and the operations that are no row of it (R82, R84, R85, R87). -/

namespace Sys2Proof.Machine

/-- HDR0, DEC.HUNT_MATCH (40_frame_decoder.md R81). The step selects it only in `HUNT` (R80). -/
def execHdr0 (s : State) : Result := .next (setDecSt .h1 s)

/-- HDR1, DEC.H1_MATCH (40_frame_decoder.md R83). The step selects it only in `H1`. -/
def execHdr1 (s : State) : Result := .next (setDecSt .ctrl s)

/-- DEC.HUNT_DISCARD (40_frame_decoder.md R82). -/
def huntDiscard (s : State) : State := countSync (setDecSt .hunt s)

/-- DEC.H1_MISMATCH (40_frame_decoder.md R84): a 0x55 is taken as a new header0 only where `REEXAMINE_H1` says so. -/
def h1Mismatch (b : Byte) (s : State) : State :=
  if s.params.reexamineH1 = true ∧ b = 0x55#8 then countSync (setDecSt .h1 s) else countSync (setDecSt .hunt s)

/-- DEC.CTRL_LATCH (40_frame_decoder.md R85). -/
def latchControl (b : Byte) (s : State) : State := setDecSt .csum { s with ctrlLatch := b }

/-- DEC.CSUM_REJECT (40_frame_decoder.md R87). -/
def csumReject (s : State) : State := setDecSt .hunt (countCsum s)

end Sys2Proof.Machine
end

