-- ==== Sys2Proof/Machine/NetworkSegment.lean ====
section
/-! DEFINITION. The meanings of the network segment's rows (41_segment_mapping.md R109 to R115). -/

namespace Sys2Proof.Machine

/-- NET_NORMAL: the port is cleared with the state (41_segment_mapping.md R109). -/
def execNetNormal (s : State) : Result := .next (writeNet .normal 0#3 s)

/-- NET_RECOVERING (41_segment_mapping.md R110). -/
def execNetRecovering (s : State) : Result := .next (writeNet .recovering 0#3 s)

/-- NET_ERROR_P1 (41_segment_mapping.md R111). -/
def execNetErrorP1 (s : State) : Result := .next (writeNet .error 1#3 s)

/-- NET_ERROR_P2 (41_segment_mapping.md R112). -/
def execNetErrorP2 (s : State) : Result := .next (writeNet .error 2#3 s)

/-- NET_ERROR_P3 (41_segment_mapping.md R113). -/
def execNetErrorP3 (s : State) : Result := .next (writeNet .error 3#3 s)

/-- NET_ERROR_P4 (41_segment_mapping.md R114). -/
def execNetErrorP4 (s : State) : Result := .next (writeNet .error 4#3 s)

/-- NET_UNDEF_3: the cell is not written, the segment is counted (41_segment_mapping.md R115, R116). -/
def execNetUndef3 (s : State) : Result := .next (countUndef s)

/-- NET_UNDEF_5: the cell is not written, the segment is counted (41_segment_mapping.md R115, R116). -/
def execNetUndef5 (s : State) : Result := .next (countUndef s)

/-- NET_UNDEF_6: the cell is not written, the segment is counted (41_segment_mapping.md R115, R116). -/
def execNetUndef6 (s : State) : Result := .next (countUndef s)

/-- NET_UNDEF_7: the cell is not written, the segment is counted (41_segment_mapping.md R115, R116). -/
def execNetUndef7 (s : State) : Result := .next (countUndef s)

/-- NET_UNDEF_9: the cell is not written, the segment is counted (41_segment_mapping.md R115, R116). -/
def execNetUndef9 (s : State) : Result := .next (countUndef s)

/-- NET_UNDEF_10: the cell is not written, the segment is counted (41_segment_mapping.md R115, R116). -/
def execNetUndef10 (s : State) : Result := .next (countUndef s)

/-- NET_UNDEF_11: the cell is not written, the segment is counted (41_segment_mapping.md R115, R116). -/
def execNetUndef11 (s : State) : Result := .next (countUndef s)

/-- NET_UNDEF_12: the cell is not written, the segment is counted (41_segment_mapping.md R115, R116). -/
def execNetUndef12 (s : State) : Result := .next (countUndef s)

/-- NET_UNDEF_13: the cell is not written, the segment is counted (41_segment_mapping.md R115, R116). -/
def execNetUndef13 (s : State) : Result := .next (countUndef s)

/-- NET_UNDEF_14: the cell is not written, the segment is counted (41_segment_mapping.md R115, R116). -/
def execNetUndef14 (s : State) : Result := .next (countUndef s)

end Sys2Proof.Machine
end

