-- ==== Sys2Proof/Machine/NodeSegment.lean ====
section
/-! DEFINITION. The meanings of the node segment's rows (41_segment_mapping.md R101 to R104). -/

namespace Sys2Proof.Machine

/-- NODE_NORMAL (41_segment_mapping.md R101). -/
def execNodeNormal (s : State) : Result := .next (writeNode .normal s)

/-- NODE_SYNC (41_segment_mapping.md R102). -/
def execNodeSync (s : State) : Result := .next (writeNode .sync s)

/-- NODE_ERROR (41_segment_mapping.md R103). -/
def execNodeError (s : State) : Result := .next (writeNode .error s)

/-- NODE_UNDEF: the cell is not written, the segment is counted (41_segment_mapping.md R104, R116). -/
def execNodeUndef (s : State) : Result := .next (countUndef s)

end Sys2Proof.Machine
end

