-- ==== Sys2Proof/Machine/StorageSegment.lean ====
section
/-! DEFINITION. The meanings of the storage segment's rows (41_segment_mapping.md R105 to R108). -/

namespace Sys2Proof.Machine

/-- STOR_NORMAL (41_segment_mapping.md R105). -/
def execStorNormal (s : State) : Result := .next (writeStor .normal s)

/-- STOR_RECOVERING (41_segment_mapping.md R106). -/
def execStorRecovering (s : State) : Result := .next (writeStor .recovering s)

/-- STOR_ERROR (41_segment_mapping.md R107). -/
def execStorError (s : State) : Result := .next (writeStor .error s)

/-- STOR_UNDEF: the cell is not written, the segment is counted (41_segment_mapping.md R108, R116). -/
def execStorUndef (s : State) : Result := .next (countUndef s)

end Sys2Proof.Machine
end

