-- ==== Sys2Proof/Machine/Frame.lean ====
section
/-! DEFINITION. The frame row of the opcode table: accepting a frame applies its control byte, one row of each segment
(40_frame_decoder.md R86; 41_segment_mapping.md R100), and a wrong checksum drops it (R87). -/

namespace Sys2Proof.Machine

/-- The meaning of a segment row, as Apply runs it (41_segment_mapping.md R100). -/
def runSegment (i : Instr) (s : State) : Result :=
  match i with
  | .nodeNormal => execNodeNormal s
  | .nodeSync => execNodeSync s
  | .nodeError => execNodeError s
  | .nodeUndef => execNodeUndef s
  | .storNormal => execStorNormal s
  | .storRecovering => execStorRecovering s
  | .storError => execStorError s
  | .storUndef => execStorUndef s
  | .netNormal => execNetNormal s
  | .netRecovering => execNetRecovering s
  | .netErrorP1 => execNetErrorP1 s
  | .netErrorP2 => execNetErrorP2 s
  | .netErrorP3 => execNetErrorP3 s
  | .netErrorP4 => execNetErrorP4 s
  | .netUndef3 => execNetUndef3 s
  | .netUndef5 => execNetUndef5 s
  | .netUndef6 => execNetUndef6 s
  | .netUndef7 => execNetUndef7 s
  | .netUndef9 => execNetUndef9 s
  | .netUndef10 => execNetUndef10 s
  | .netUndef11 => execNetUndef11 s
  | .netUndef12 => execNetUndef12 s
  | .netUndef13 => execNetUndef13 s
  | .netUndef14 => execNetUndef14 s
  | .hdr0 | .hdr1 | .frame _ _ => .next s    -- no segment rows: a control byte never decodes to one

/-- `Apply(c)`: the node row, the storage row and the network row of the control byte, on disjoint registers but for
`CNT_UNDEF`, which grows by one for each undefined segment (41_segment_mapping.md R100, R116). -/
def applyControl (c : Byte) (s : State) : Result :=
  andThen (andThen (runSegment (nodeRow c) s) (runSegment (storageRow c))) (runSegment (networkRow c))

/-- DEC.CSUM_ACCEPT (40_frame_decoder.md R86). -/
def csumAccept (c : Byte) (s : State) : Result :=
  andThen (applyControl c s) (fun t => .next (setDecSt .hunt (countOk t)))

/-- FRAME, in the cycle its checksum byte is delivered, the header having been consumed and the control byte latched:
accepted with the expected checksum (40_frame_decoder.md R86), dropped with any other (R87). -/
def execFrame (c k : Byte) (s : State) : Result :=
  if k = expectedCrc c then csumAccept c s else .next (csumReject s)

end Sys2Proof.Machine
end

