-- ==== Sys2Proof/Machine/Dispatch.lean ====
section
/-! DEFINITION. The meaning of every instruction: one arm per row of the opcode table. -/

namespace Sys2Proof.Machine

def exec (i : Instr) (s : State) : Host.Outcome State Fault Refusal :=
  match i with
  | .hdr0 => Sys2Proof.Machine.execHdr0 s
  | .hdr1 => Sys2Proof.Machine.execHdr1 s
  | .frame control checksum => Sys2Proof.Machine.execFrame control checksum s
  | .nodeNormal => Sys2Proof.Machine.execNodeNormal s
  | .nodeSync => Sys2Proof.Machine.execNodeSync s
  | .nodeError => Sys2Proof.Machine.execNodeError s
  | .nodeUndef => Sys2Proof.Machine.execNodeUndef s
  | .storNormal => Sys2Proof.Machine.execStorNormal s
  | .storRecovering => Sys2Proof.Machine.execStorRecovering s
  | .storError => Sys2Proof.Machine.execStorError s
  | .storUndef => Sys2Proof.Machine.execStorUndef s
  | .netNormal => Sys2Proof.Machine.execNetNormal s
  | .netRecovering => Sys2Proof.Machine.execNetRecovering s
  | .netErrorP1 => Sys2Proof.Machine.execNetErrorP1 s
  | .netErrorP2 => Sys2Proof.Machine.execNetErrorP2 s
  | .netErrorP3 => Sys2Proof.Machine.execNetErrorP3 s
  | .netErrorP4 => Sys2Proof.Machine.execNetErrorP4 s
  | .netUndef3 => Sys2Proof.Machine.execNetUndef3 s
  | .netUndef5 => Sys2Proof.Machine.execNetUndef5 s
  | .netUndef6 => Sys2Proof.Machine.execNetUndef6 s
  | .netUndef7 => Sys2Proof.Machine.execNetUndef7 s
  | .netUndef9 => Sys2Proof.Machine.execNetUndef9 s
  | .netUndef10 => Sys2Proof.Machine.execNetUndef10 s
  | .netUndef11 => Sys2Proof.Machine.execNetUndef11 s
  | .netUndef12 => Sys2Proof.Machine.execNetUndef12 s
  | .netUndef13 => Sys2Proof.Machine.execNetUndef13 s
  | .netUndef14 => Sys2Proof.Machine.execNetUndef14 s

end Sys2Proof.Machine
end

