-- ==== Sys2Proof/Machine/AnimatorEngine.lean ====
section
/-! DEFINITION. The execution model the three animators share: programs of stages, samples and steps
(42_animator_engine.md R120 to R124). -/

namespace Sys2Proof.Machine

/-- One stage: pin actions run in one cycle, then a wait in ticks (42_animator_engine.md R120). -/
structure Stage where
  actions : Actions
  wait : Nat
deriving DecidableEq, Repr

/-- One iteration: a list of stages that is not empty (42_animator_engine.md R120). -/
structure Program where
  first : Stage
  rest : List Stage
deriving DecidableEq, Repr

/-- The stages in order. -/
def stagesOf (P : Program) : List Stage := P.first :: P.rest

/-- `P[i]` where `i < length(P)`. -/
def stageAt (P : Program) (i : Nat) : Option Stage := (stagesOf P)[i]?

/-- `STG_a <- i ; TMR_a <- P[i].wait ; PH_a <- WAIT` with the stage's actions run on the pins
(42_animator_engine.md R122, R124). -/
def startStage {σ : Type} (i : Nat) (st : Stage) (a : Anim σ) : Anim σ :=
  { a with ph := .wait, stg := BitVec.ofNat 4 i, tmr := st.wait, lit := runActions st.actions a.lit }

/-- `Sample(a)` of a cell that holds `v` (42_animator_engine.md R122). A value without a program is refused by the
animator's own name. -/
def sampleAnim {σ : Type} (prog : σ → Option Program) (code3 : Refusal) (v : σ) (a : Anim σ) :
    Except Refusal (Anim σ) :=
  match prog v with
  | some P => .ok (startStage 0 P.first { a with cur := v })
  | none => .error code3

/-- The end of the wait of stage `STG_a`: the next stage, or, after the last, a sample of the cell, which holds `v`
(42_animator_engine.md R124). -/
def endStage {σ : Type} (prog : σ → Option Program) (code3 : Refusal) (v : σ) (a : Anim σ) :
    Except Refusal (Anim σ) :=
  match prog a.cur with
  | some P =>
    match stageAt P (a.stg.toNat + 1) with
    | some st => .ok (startStage (a.stg.toNat + 1) st a)
    | none => sampleAnim prog code3 v a
  | none => .error code3

/-- An animator's step in a cycle in which `RunStep` holds (42_animator_engine.md R124); `v` is the start-of-cycle
value of its store cell. -/
def stepAnim {σ : Type} (prog : σ → Option Program) (code3 : Refusal) (v : σ) (tick : Bool) (a : Anim σ) :
    Except Refusal (Anim σ) :=
  match a.ph with
  | .sample => sampleAnim prog code3 v a
  | .wait =>
    if tick then
      if a.tmr = 0 then .error .timerZero
      else if 1 < a.tmr then .ok { a with tmr := a.tmr - 1 }
      else endStage prog code3 v a
    else .ok a

end Sys2Proof.Machine
end

