-- ==== Sys2Proof/Machine/Durations.lean ====
section
/-! DEFINITION. The blink durations in ticks (00_scope.md R7, R8; 70_reset_and_hazards.md R222) and the width of the
timers that count them (42_animator_engine.md R128). -/

namespace Sys2Proof.Machine

/-- `T_SLOW`: 0.5 s (00_scope.md R8). -/
def tSlow (p : Params) : Nat := p.tickHz / 2

/-- `T_FAST`: 0.2 s (00_scope.md R8). -/
def tFast (p : Params) : Nat := p.tickHz / 5

/-- The number of binary digits of `n`, counting at most `fuel` of them. -/
def widthWithin (fuel n : Nat) : Nat :=
  match fuel with
  | 0 => 0
  | fuel + 1 => if n = 0 then 0 else widthWithin fuel (n / 2) + 1

/-- The smallest width that holds `n` (`widthOf_le_iff`); `n` digits are always enough. -/
def widthOf (n : Nat) : Nat := widthWithin n n

/-- The largest of `T_SLOW`, `T_FAST`, the three intervals and `T_BADPORT` (42_animator_engine.md R128). -/
def longestWait (p : Params) : Nat :=
  max (max (max (tSlow p) (tFast p)) (max p.sizedFor.node p.sizedFor.net)) (max p.sizedFor.stor p.tBadPort)

/-- `TMR_WIDTH`: the smallest width that holds the longest wait (42_animator_engine.md R128). The intervals are those
the block is built for: the width is a constant that the configured intervals are checked against (46_orchestrator.md
R170 item 3; log entry 4). -/
def tmrWidth (p : Params) : Nat := widthOf (longestWait p)

end Sys2Proof.Machine
end

