-- ==== Sys2Proof/Machine/NetworkAnimator.lean ====
section
/-! DEFINITION. The network animator's programs (44_network_animator.md R150 to R154) and its step. -/

namespace Sys2Proof.Machine

/-- NET.NORMAL (44_network_animator.md R150). -/
def netNormalProgram (c : Cfg) : Program :=
  { first := { actions := .ifDark .norm (.setLit .norm .done) .done, wait := c.tIntNet }
    rest := [] }

/-- Stages 1 to `2n - 1` of NET.ERROR(n): dark, then lit and dark for each further blink
(44_network_animator.md R151). -/
def blinkStages (p : Params) : Nat → List Stage
  | 0 => []
  | 1 => [{ actions := .setDark .err .done, wait := tFast p }]
  | n + 2 =>
    { actions := .setDark .err .done, wait := tFast p } ::
      { actions := .setLit .err .done, wait := tFast p } :: blinkStages p (n + 1)

/-- NET.ERROR(n) for a port `n` in 1..4: `2n + 1` stages (44_network_animator.md R151). -/
def netErrorProgram (p : Params) (c : Cfg) (n : Nat) : Program :=
  { first := { actions := .ifLit .norm (.setDark .norm .done) (.setLit .err .done), wait := tFast p }
    rest := blinkStages p n ++ [{ actions := .done, wait := c.tIntNet }] }

/-- NET.ERROR with a port outside 1..4 (44_network_animator.md R152; 90_conflicts.md C1). -/
def netBadPortProgram (p : Params) : Program :=
  { first := { actions := .ifLit .norm (.setDark .norm .done) .done, wait := p.tBadPort }
    rest := [] }

/-- NET.RECOVERING (44_network_animator.md R153). -/
def netRecoveringProgram (p : Params) : Program :=
  { first := { actions := .ifLit .norm (.setDark .norm .done) (.setLit .aux .done), wait := tSlow p }
    rest := [{ actions := .setDark .aux .done, wait := tSlow p }] }

/-- `Program_network(v)`; code 3 has none (44_network_animator.md R154). The port is read in Error only. -/
def netProgram (p : Params) (c : Cfg) (v : NetCell) : Option Program :=
  match v.st with
  | .normal => some (netNormalProgram c)
  | .recovering => some (netRecoveringProgram p)
  | .error =>
    if 1 ≤ v.port.toNat ∧ v.port.toNat ≤ 4 then some (netErrorProgram p c v.port.toNat) else some (netBadPortProgram p)
  | .code3 => none

/-- The network animator's step in a cycle in which `RunStep` holds (42_animator_engine.md R124). -/
def stepNet (tick : Bool) (s : State) : Except Refusal (Anim NetCell) :=
  stepAnim (netProgram s.params s.cfg) .netCode3 (readNet s) tick s.net

end Sys2Proof.Machine
end

