-- ==== Sys2Proof/Machine/NodeAnimator.lean ====
section
/-! DEFINITION. The node animator's programs (43_node_animator.md R140 to R143) and its step. -/

namespace Sys2Proof.Machine

/-- NODE.NORMAL (43_node_animator.md R140). -/
def nodeNormalProgram (c : Cfg) : Program :=
  { first :=
      { actions := .ifDark .norm (.ifLit .err (.setDark .err .done) (.setLit .norm .done)) .done
        wait := c.tIntNode }
    rest := [] }

/-- NODE.ERROR (43_node_animator.md R141). -/
def nodeErrorProgram (c : Cfg) : Program :=
  { first :=
      { actions := .ifDark .err (.ifLit .norm (.setDark .norm .done) (.setLit .err .done)) .done
        wait := c.tIntNode }
    rest := [] }

/-- NODE.SYNC (43_node_animator.md R142). -/
def nodeSyncProgram (p : Params) : Program :=
  { first :=
      { actions := .ifLit .norm (.setDark .norm .done) (.ifLit .err (.setDark .err .done) (.setLit .aux .done))
        wait := tSlow p }
    rest := [{ actions := .setDark .aux .done, wait := tSlow p }] }

/-- `Program_node(v)`; code 3 has none (43_node_animator.md R143). -/
def nodeProgram (p : Params) (c : Cfg) (v : NodeSt) : Option Program :=
  match v with
  | .normal => some (nodeNormalProgram c)
  | .sync => some (nodeSyncProgram p)
  | .error => some (nodeErrorProgram c)
  | .code3 => none

/-- The node animator's step in a cycle in which `RunStep` holds (42_animator_engine.md R124). -/
def stepNode (tick : Bool) (s : State) : Except Refusal (Anim NodeSt) :=
  stepAnim (nodeProgram s.params s.cfg) .nodeCode3 (readNode s) tick s.node

end Sys2Proof.Machine
end

