-- ==== Sys2Proof/Machine/StorageAnimator.lean ====
section
/-! DEFINITION. The storage animator's programs (45_storage_animator.md R160 to R163) and its step. -/

namespace Sys2Proof.Machine

/-- STOR.NORMAL (45_storage_animator.md R160). -/
def storNormalProgram (c : Cfg) : Program :=
  { first :=
      { actions := .ifDark .norm (.ifLit .err (.setDark .err .done) (.setLit .norm .done)) .done
        wait := c.tIntStor }
    rest := [] }

/-- STOR.ERROR (45_storage_animator.md R161). -/
def storErrorProgram (c : Cfg) : Program :=
  { first :=
      { actions := .ifDark .err (.ifLit .norm (.setDark .norm .done) (.setLit .err .done)) .done
        wait := c.tIntStor }
    rest := [] }

/-- STOR.RECOVERING (45_storage_animator.md R162). -/
def storRecoveringProgram (p : Params) : Program :=
  { first :=
      { actions := .ifLit .norm (.setDark .norm .done) (.ifLit .err (.setDark .err .done) (.setLit .aux .done))
        wait := tSlow p }
    rest := [{ actions := .setDark .aux .done, wait := tSlow p }] }

/-- `Program_storage(v)`; code 3 has none (45_storage_animator.md R163). -/
def storProgram (p : Params) (c : Cfg) (v : StorSt) : Option Program :=
  match v with
  | .normal => some (storNormalProgram c)
  | .recovering => some (storRecoveringProgram p)
  | .error => some (storErrorProgram c)
  | .code3 => none

/-- The storage animator's step in a cycle in which `RunStep` holds (42_animator_engine.md R124). -/
def stepStor (tick : Bool) (s : State) : Except Refusal (Anim StorSt) :=
  stepAnim (storProgram s.params s.cfg) .storCode3 (readStor s) tick s.stor

end Sys2Proof.Machine
end

