-- ==== Sys2Proof/Machine/RunCycle.lean ====
section
/-! DEFINITION. A cycle in which `RunStep` holds: every animator's step and the decoder's operation for the byte of the
cycle, on disjoint registers and from start-of-cycle values (00_scope.md R6; 60_exceptions.md R193 item 4). -/

namespace Sys2Proof.Machine

/-- What an animator's step leaves, put into its place in the state. -/
def putAnim {σ : Type} (r : Except Refusal (Anim σ)) (put : Anim σ → State) : Result :=
  match r with
  | .ok a => .next (put a)
  | .error x => .refused x

/-- The three animators' steps. They read no register that another of them writes, so that each reads its
start-of-cycle values (42_animator_engine.md R124; 10_state.md R35). -/
def animatorsCycle (tick : Bool) (s : State) : Result :=
  andThen (andThen (putAnim (stepNode tick s) (fun a => { s with node := a }))
    (fun t => putAnim (stepNet tick t) (fun a => { t with net := a })))
    (fun t => putAnim (stepStor tick t) (fun a => { t with stor := a }))

/-- The instruction the decoder reads from a delivered byte, if there is one: which format the byte belongs to is the
state of the decoder (40_frame_decoder.md R81, R83, R86). The bytes before a checksum byte are the header and the
latched control byte (30_encoding.md R72). -/
def fetch (b : Byte) (s : State) : Option Instr :=
  match s.decSt with
  | .hunt =>
    match decode .header0 [b] with
    | .ok (i, _) => some i
    | .error _ => none
  | .h1 =>
    match decode .header1 [b] with
    | .ok (i, _) => some i
    | .error _ => none
  | .ctrl => none
  | .csum =>
    match decode .frame [header0, header1, s.ctrlLatch, b] with
    | .ok (i, _) => some i
    | .error _ => none

/-- The decoder's operation for a byte that is no instruction: discarded by the header search, or latched as the
control byte (40_frame_decoder.md R82, R84, R85). `fetch` always reads a FRAME in `CSUM`; a byte that were none would be
dropped as R87 drops it. -/
def withoutInstr (b : Byte) (s : State) : State :=
  match s.decSt with
  | .hunt => huntDiscard s
  | .h1 => h1Mismatch b s
  | .ctrl => latchControl b s
  | .csum => csumReject s

/-- The decoder's one operation for a delivered byte (40_frame_decoder.md R80, R89). -/
def decodeByte (b : Byte) (s : State) : Result :=
  match fetch b s with
  | some i => exec i s
  | none => .next (withoutInstr b s)

/-- The decoder's part of a cycle: an operation if a byte is delivered, and nothing otherwise
(40_frame_decoder.md R80, R88). -/
def decoderCycle (rx : Option Byte) (s : State) : Result :=
  match rx with
  | some b => decodeByte b s
  | none => .next s

/-- A cycle in which `RunStep` holds. The animators come first, so that their samples read the cells as they were at
the start of the cycle (20_memory.md R43; 70_reset_and_hazards.md R217); the decoder reads none of their registers. -/
def runCycle (inp : CycleIn) (s : State) : Result :=
  andThen (animatorsCycle inp.tick s) (decoderCycle inp.rx)

end Sys2Proof.Machine
end

