-- ==== Sys2Proof/Machine/ModeController.lean ====
section
/-! DEFINITION. The mode controller: the configuration check, halting, and what a cycle of `clk` does
(46_orchestrator.md R170 to R174; 60_exceptions.md R193). -/

namespace Sys2Proof.Machine

/-- The nine `PIN_ID[u][r]` (10_state.md R21), node, network, storage. -/
def pinList (c : Cfg) : List Nat :=
  [c.node.norm, c.node.err, c.node.aux, c.net.norm, c.net.err, c.net.aux, c.stor.norm, c.stor.err, c.stor.aux]

/-- Whether an interval is at least 1 tick and fits the timer (46_orchestrator.md R170 item 3). -/
def intervalOk (p : Params) (t : Nat) : Bool := decide (1 ≤ t ∧ t ≤ 2 ^ tmrWidth p - 1)

/-- `CfgOK` (46_orchestrator.md R170). -/
def cfgOk (p : Params) (c : Cfg) : Bool :=
  (pinList c).all (fun q => decide (q < p.numGpio))
    && decide (pinList c).Nodup
    && (intervalOk p c.tIntNode && intervalOk p c.tIntNet && intervalOk p c.tIntStor)

/-- `RunStep` (46_orchestrator.md R174). -/
def runStep (inp : CycleIn) (s : State) : Bool :=
  !inp.rst && decide (s.mode = .run) && !inp.ioErr && !inp.shutdown

/-- SYS.CHECK (46_orchestrator.md R171). -/
def sysCheck (s : State) : State :=
  if cfgOk s.params s.cfg then { s with mode := .run } else raiseHalt .configError s

/-- A cycle in RUN without reset: SYS.HALT_EVENT, the I/O error before the shutdown, or a step of the agents
(46_orchestrator.md R172; 60_exceptions.md R193). -/
def sysRun (inp : CycleIn) (s : State) : Result :=
  if inp.ioErr then .next (raiseHalt .ioError s)
  else if inp.shutdown then .next (raiseHalt .shutdown s)
  else runCycle inp s

/-- Whether the cycle's configuration inputs differ from those the machine has (46_orchestrator.md R180). -/
def cfgChanges (inp : CycleIn) (s : State) : Bool :=
  match inp.cfg with
  | some c => decide (c ≠ s.cfg)
  | none => false

/-- The configuration inputs of a cycle with `rst = 1` taken in: the host may set them before it deasserts `rst`
(10_state.md R21; 46_orchestrator.md R178). -/
def takeCfg (inp : CycleIn) (s : State) : State :=
  match inp.cfg with
  | some c => { s with cfg := c }
  | none => s

/-- What a cycle of `clk` does, by the priority of 60_exceptions.md R193: reset; a changed configuration is refused
(46_orchestrator.md R180); the check (R171); RUN (R172, R174); HALT, in which nothing is written (R173). -/
def clockCycle (inp : CycleIn) (s : State) : Result :=
  if inp.rst then .next (resetRegs (takeCfg inp s))
  else if cfgChanges inp s then .refused .configChanged
  else
    match s.mode with
    | .check => .next (sysCheck s)
    | .run => sysRun inp s
    | .halt => .next s
    | .code3 => .refused .modeCode3

end Sys2Proof.Machine
end

