-- ==== Sys2Proof/Machine/Stimulus.lean ====
section
/-! DEFINITION. The stimulus notation (30_encoding.md R75, R76): what each statement puts on the inputs, cycle by
cycle. It is how a program comes to the machine (log entry 1). -/

namespace Sys2Proof.Machine

/-- The inputs of `BYTE b` (30_encoding.md R75). -/
def byteCycle (b : Byte) : CycleIn := { CycleIn.idle with rx := some b }

/-- The inputs of one cycle of `TICKS` (30_encoding.md R75). -/
def tickCycle : CycleIn := { CycleIn.idle with tick := true }

/-- The inputs of `RESET` (30_encoding.md R75). -/
def resetCycle : CycleIn := { CycleIn.idle with rst := true }

/-- `RESET` with the configuration inputs set: the host sets them before it deasserts `rst` (46_orchestrator.md
R178). -/
def resetCycleWith (c : Cfg) : CycleIn := { CycleIn.idle with rst := true, cfg := some c }

/-- The inputs of `IOERR` (30_encoding.md R75). -/
def ioErrCycle : CycleIn := { CycleIn.idle with ioErr := true }

/-- The inputs of `SHUTDOWN` (30_encoding.md R75). -/
def shutdownCycle : CycleIn := { CycleIn.idle with shutdown := true }

/-- A statement of the stimulus notation (30_encoding.md R75, R76). `cycle` holds the inputs it names. -/
inductive Stmt where
  | reset
  | byte (b : Byte)
  | bytes (bs : List Byte)
  | idle (n : Nat)
  | ticks (n : Nat)
  | ioerr
  | shutdown
  | cycle (rst ioErr shutdown tick : Bool) (rx : Option Byte)
  | frame (c : Byte)
  | badframe (c k : Byte)
  | framef (node : NodeSt) (storage : StorSt) (network : NetCell)
deriving DecidableEq, Repr

/-- `NodeCode` (30_encoding.md R76); code 3 has none. -/
def nodeSegmentOf (v : NodeSt) : Option Byte :=
  match v with
  | .normal => some 0x00#8
  | .sync => some 0x40#8
  | .error => some 0xC0#8
  | .code3 => none

/-- `StorCode` (30_encoding.md R76); code 3 has none. -/
def storageSegmentOf (v : StorSt) : Option Byte :=
  match v with
  | .normal => some 0x00#8
  | .recovering => some 0x10#8
  | .error => some 0x30#8
  | .code3 => none

/-- `NetCode` (30_encoding.md R76); only the abstract states of 00_scope.md R11 have one. -/
def networkSegmentOf (v : NetCell) : Option Byte :=
  match v.st, v.port.toNat with
  | .normal, 0 => some 0x00#8
  | .recovering, 0 => some 0x0F#8
  | .error, 1 => some 0x01#8
  | .error, 2 => some 0x02#8
  | .error, 3 => some 0x04#8
  | .error, 4 => some 0x08#8
  | _, _ => none

/-- The control byte of `FRAMEF` (30_encoding.md R76). -/
def controlOf (n : NodeSt) (s : StorSt) (w : NetCell) : Option Byte :=
  match nodeSegmentOf n, storageSegmentOf s, networkSegmentOf w with
  | some a, some b, some c => some (a ||| b ||| c)
  | _, _, _ => none

/-- The four bytes of `FRAME c` (30_encoding.md R76). -/
def frameOf (c : Byte) : List Byte := [header0, header1, c, expectedCrc c]

/-- The cycles a statement stands for, or `none` where the notation does not allow it: a BADFRAME with the right
checksum, or a FRAMEF of a value with no code (30_encoding.md R75, R76). `IDLE 0`, `TICKS 0` and a `BYTES` without a
value are statements of no cycle: the rule says one or more cycles and bounds no count; DESIGN CHOICE (log entry 9). -/
def stmtCycles (st : Stmt) : Option (List CycleIn) :=
  match st with
  | .reset => some [resetCycle]
  | .byte b => some [byteCycle b]
  | .bytes bs => some (bs.map byteCycle)
  | .idle n => some (List.replicate n CycleIn.idle)
  | .ticks n => some (List.replicate n tickCycle)
  | .ioerr => some [ioErrCycle]
  | .shutdown => some [shutdownCycle]
  | .cycle rst ioErr shutdown tick rx =>
    some [{ rst := rst, rx := rx, ioErr := ioErr, shutdown := shutdown, tick := tick, cfg := none }]
  | .frame c => some ((frameOf c).map byteCycle)
  | .badframe c k => if k = expectedCrc c then none else some ([header0, header1, c, k].map byteCycle)
  | .framef n s w => (controlOf n s w).map (fun c => (frameOf c).map byteCycle)

/-- The cycles of a stimulus program, its statements in order (30_encoding.md R75). -/
def programCycles (prog : List Stmt) : Option (List CycleIn) :=
  match prog with
  | [] => some []
  | st :: rest =>
    match stmtCycles st, programCycles rest with
    | some xs, some ys => some (xs ++ ys)
    | _, _ => none

/-- What the external receiver puts on the inputs for a character received with a line error, under its policy
(00_scope.md R8; 92_eei_decisions.md D3). The block sees only this. -/
def badCharacter (policy : UartErrorPolicy) (b : Byte) : CycleIn :=
  match policy with
  | .dropCharacter => CycleIn.idle
  | .deliverCharacter => byteCycle b
  | .raiseIoErr => ioErrCycle

end Sys2Proof.Machine
end

