-- ==== Sys2Proof/Machine/Step.lean ====
section
/-! DEFINITION. One step: one cycle of `clk` on the next inputs (00_scope.md R6). -/

namespace Sys2Proof.Machine

/-- The inputs of the next cycle; after the last that were given, every input is 0 (30_encoding.md R75). -/
def nextInput (s : State) : CycleIn := s.stim.headD CycleIn.idle

/-- The state with the inputs of the next cycle taken off its stimulus. -/
def takeInput (s : State) : State := { s with stim := s.stim.tail }

/-- One step of the machine is one cycle of `clk` (00_scope.md R6; 70_reset_and_hazards.md R223). -/
def step (s : State) : Host.Outcome State Fault Refusal := clockCycle (nextInput s) (takeInput s)

/-- The state in which the very next cycle delivers byte `b` to a decoder in state `d`, in RUN. -/
def State.withByte (s : State) (d : DecSt) (b : Byte) : State :=
  { s with mode := .run, decSt := d, stim := byteCycle b :: s.stim }

/-- The state in which the very next cycle delivers the checksum byte `k` of a frame whose control byte is `c`. -/
def State.withFrame (s : State) (c k : Byte) : State := { s.withByte .csum k with ctrlLatch := c }

/-- The state in which the very next step runs the instruction of a table word: a header row as the byte the decoder
is waiting for, a frame in its checksum cycle, a segment row as the control byte of a frame with the right checksum,
which runs it with the rows of the other two segments (41_segment_mapping.md R100). Log entry 6. -/
def State.withFetchWord (s : State) (nbits w : Nat) : State :=
  match decodeTableWord nbits w with
  | none => s
  | some .hdr0 => s.withByte .hunt header0
  | some .hdr1 => s.withByte .h1 header1
  | some (.frame c k) => s.withFrame c k
  | some .nodeNormal | some .nodeSync | some .nodeError | some .nodeUndef
  | some .storNormal | some .storRecovering | some .storError | some .storUndef
  | some .netNormal | some .netRecovering
  | some .netErrorP1 | some .netErrorP2 | some .netErrorP3 | some .netErrorP4
  | some .netUndef3 | some .netUndef5 | some .netUndef6 | some .netUndef7 | some .netUndef9
  | some .netUndef10 | some .netUndef11 | some .netUndef12 | some .netUndef13 | some .netUndef14 =>
    s.withFrame (BitVec.ofNat 8 w) (expectedCrc (BitVec.ofNat 8 w))

end Sys2Proof.Machine
end

