-- ==== Sys2Proof/Machine/Outputs.lean ====
section
/-! DEFINITION. The output ports: functions of the start-of-cycle registers (10_state.md R22), with the GPIO output
multiplexer (46_orchestrator.md R175, R176). -/

namespace Sys2Proof.Machine

/-- The nine pin bits `LIT[u][r]`, each with the physical pin it is shown on (46_orchestrator.md R175). -/
def pinMap (s : State) : List (Nat × Bool) :=
  (pinList s.cfg).zip
    [s.node.lit.norm, s.node.lit.err, s.node.lit.aux, s.net.lit.norm, s.net.lit.err, s.net.lit.aux,
     s.stor.lit.norm, s.stor.lit.err, s.stor.lit.aux]

/-- The pin bit shown on physical pin `q` in RUN, if the configuration names `q` (46_orchestrator.md R175). In RUN the
role is unique by R170; where two roles name one pin, which the check keeps out of RUN, the first is taken (log entry
8). -/
def litAt (s : State) (q : Nat) : Option Bool := (pinMap s).lookup q

/-- The level of a lit or a dark LED (46_orchestrator.md R175, R179). -/
def levelOf (c : Cfg) (lit : Bool) : Bool := if lit then c.lightLevel else c.darkLevel

/-- `gpio_oe[q]` (46_orchestrator.md R175, R176). -/
def gpioOe (s : State) (q : Nat) : Bool := decide (s.mode = .run) && (litAt s q).isSome

/-- `gpio_o[q]` (46_orchestrator.md R175, R176). -/
def gpioO (s : State) (q : Nat) : Bool :=
  match s.mode with
  | .run =>
    match litAt s q with
    | some lit => levelOf s.cfg lit
    | none => false
  | .check | .halt | .code3 => false

/-- Every output port of 10_state.md R22; the pins are listed from 0 to `NUM_GPIO - 1`. -/
structure Outputs where
  gpioO : List Bool
  gpioOe : List Bool
  halted : Bool
  haltCause : BitVec 2
  errorExit : Bool
  nodeState : BitVec 2
  storageState : BitVec 2
  networkState : BitVec 2
  networkPort : BitVec 3
  cntSync : Nat
  cntCsum : Nat
  cntOk : Nat
  cntUndef : Nat
deriving DecidableEq, Repr

/-- The outputs in a cycle that starts in state `s` (10_state.md R22). They do not look at the cycle's inputs: a cycle
with `rst = 1` that starts in RUN and brings other configuration inputs still shows the pins by the configuration the
machine has, and the new one shows from the cycle after. The spec leaves that cycle outside its rules (46_orchestrator.md
R180); DESIGN CHOICE (log entry 7). -/
def outputs (s : State) : Outputs :=
  { gpioO := (List.range s.params.numGpio).map (gpioO s)
    gpioOe := (List.range s.params.numGpio).map (gpioOe s)
    halted := halted s
    haltCause := haltCauseCode s.haltCause
    errorExit := errorExit s
    nodeState := nodeCode s.nodeSt
    storageState := storCode s.storSt
    networkState := netCode s.netCell.st
    networkPort := s.netCell.port
    cntSync := s.cntSync
    cntCsum := s.cntCsum
    cntOk := s.cntOk
    cntUndef := s.cntUndef }

end Sys2Proof.Machine
end

