-- ==== Sys2Proof/WellFormed.lean ====
section
/-! DEFINITION. The checks the spec puts on the static terms: a frame is valid only with its own checksum
(30_encoding.md R71), and the build parameters have their bounds (00_scope.md R8; 46_orchestrator.md R170). The run
time check of the configuration inputs is `Machine.cfgOk`. -/

namespace Sys2Proof

open Machine (expectedCrc)

/-- A FRAME is valid if and only if its checksum is the expected one (30_encoding.md R71); every other row is one
fixed encoding. The decoder also answers an invalid frame, whose meaning is to be dropped (40_frame_decoder.md R87). -/
def Instr.wellFormed (i : Instr) : Bool :=
  match i with
  | .frame c k => k == expectedCrc c
  | .hdr0 | .hdr1
  | .nodeNormal | .nodeSync | .nodeError | .nodeUndef
  | .storNormal | .storRecovering | .storError | .storUndef
  | .netNormal | .netRecovering | .netErrorP1 | .netErrorP2 | .netErrorP3 | .netErrorP4
  | .netUndef3 | .netUndef5 | .netUndef6 | .netUndef7 | .netUndef9
  | .netUndef10 | .netUndef11 | .netUndef12 | .netUndef13 | .netUndef14 => true

/-- The build parameters are those of a block: at least nine pins, a tick rate that makes 0.5 s and 0.2 s whole
numbers of ticks, and a bad-port wait of at least one tick (00_scope.md R8). The timers hold every wait by their
definition (`tmrWidth`); the configured intervals are checked at run time (`Machine.cfgOk`). -/
def Params.wellFormed (p : Params) : Bool :=
  decide (9 ≤ p.numGpio)
    && decide (0 < p.tickHz) && decide (p.tickHz % 10 = 0)
    && decide (1 ≤ p.tBadPort)

end Sys2Proof
end

