-- ==== Sys2Proof/Safety.lean ====
section
/-! DEFINITION. What a good state of the block is: the invariant every step keeps, and the terms statements about it
are made in. -/

namespace Sys2Proof.Machine

/-- The registers the decoder writes (10_state.md R35). -/
structure DecoderRegs where
  decSt : DecSt
  ctrlLatch : Byte
  nodeSt : NodeSt
  storSt : StorSt
  netCell : NetCell
  cntSync : Nat
  cntCsum : Nat
  cntOk : Nat
  cntUndef : Nat
deriving DecidableEq, Repr

/-- The decoder's registers of a state. -/
def decoderRegs (s : State) : DecoderRegs :=
  { decSt := s.decSt, ctrlLatch := s.ctrlLatch, nodeSt := s.nodeSt, storSt := s.storSt, netCell := s.netCell,
    cntSync := s.cntSync, cntCsum := s.cntCsum, cntOk := s.cntOk, cntUndef := s.cntUndef }

/-- The value a control byte writes to the node cell, if its node segment is defined: the table of 30_encoding.md R63. -/
def nodeValue (c : Byte) : Option NodeSt :=
  if c &&& 0xC0#8 = 0x00#8 then some .normal
  else if c &&& 0xC0#8 = 0x40#8 then some .sync
  else if c &&& 0xC0#8 = 0xC0#8 then some .error
  else none

/-- The value a control byte writes to the storage cell: the table of 30_encoding.md R64. -/
def storageValue (c : Byte) : Option StorSt :=
  if c &&& 0x30#8 = 0x00#8 then some .normal
  else if c &&& 0x30#8 = 0x10#8 then some .recovering
  else if c &&& 0x30#8 = 0x30#8 then some .error
  else none

/-- The value a control byte writes to the network cell: the table of 30_encoding.md R65. -/
def networkValue (c : Byte) : Option NetCell :=
  if c &&& 0x0F#8 = 0x00#8 then some { st := .normal, port := 0#3 }
  else if c &&& 0x0F#8 = 0x0F#8 then some { st := .recovering, port := 0#3 }
  else if c &&& 0x0F#8 = 0x01#8 then some { st := .error, port := 1#3 }
  else if c &&& 0x0F#8 = 0x02#8 then some { st := .error, port := 2#3 }
  else if c &&& 0x0F#8 = 0x04#8 then some { st := .error, port := 3#3 }
  else if c &&& 0x0F#8 = 0x08#8 then some { st := .error, port := 4#3 }
  else none

/-- The number of undefined segments of a control byte, 0 to 3 (41_segment_mapping.md R116). -/
def undefCount (c : Byte) : Nat :=
  (if nodeValue c = none then 1 else 0) + (if storageValue c = none then 1 else 0)
    + (if networkValue c = none then 1 else 0)

/-- The state an accepted frame with control byte `c` leaves: each defined segment's cell written, each undefined one
counted, the frame counted, the decoder back in HUNT (40_frame_decoder.md R86; 41_segment_mapping.md R100). -/
def acceptedFrame (c : Byte) (s : State) : State :=
  { s with
    nodeSt := (nodeValue c).getD s.nodeSt
    storSt := (storageValue c).getD s.storSt
    netCell := (networkValue c).getD s.netCell
    cntUndef := (s.cntUndef + undefCount c) % 2 ^ s.params.cntWidth
    cntOk := (s.cntOk + 1) % 2 ^ s.params.cntWidth
    decSt := .hunt }

/-- A byte stream without the bytes 0x55, 0xAA in a row (40_frame_decoder.md R91). -/
def NoHeaderPair (bytes : List Byte) : Prop :=
  ∀ before after : List Byte, bytes ≠ before ++ [0x55#8, 0xAA#8] ++ after

/-- The length of an iteration in ticks (42_animator_engine.md R126). -/
def totalWait (P : Program) : Nat := ((stagesOf P).map (fun st => st.wait)).sum

/-- The ticks of an iteration before its stage `n` starts (42_animator_engine.md R126). -/
def waitBefore (P : Program) (n : Nat) : Nat := (((stagesOf P).take n).map (fun st => st.wait)).sum

/-- The pins after the first `n` stages of a program (42_animator_engine.md R120, R121). -/
def pinsAfter (P : Program) (n : Nat) (l : Pins) : Pins :=
  ((stagesOf P).take n).foldl (fun l st => runActions st.actions l) l

/-- How many of some cycles carry a tick strobe. -/
def ticksIn {σ : Type} (cycles : List (Bool × σ)) : Nat := cycles.countP (fun c => c.1)

/-- An animator stepped through stepping cycles, each with or without a tick strobe and with the value that its store
cell holds in it (42_animator_engine.md R124). -/
def runAnim {σ : Type} (prog : σ → Option Program) (code3 : Refusal) (cycles : List (Bool × σ)) (a : Anim σ) :
    Except Refusal (Anim σ) :=
  match cycles with
  | [] => .ok a
  | (tick, v) :: rest =>
    match stepAnim prog code3 v tick a with
    | .ok b => runAnim prog code3 rest b
    | .error x => .error x

/-- Whether a stepping cycle is a sample of an animator (42_animator_engine.md R123): its first step after reset, or the
tick that ends the wait of the last stage of its program. -/
def SamplesNow {σ : Type} (prog : σ → Option Program) (tick : Bool) (a : Anim σ) : Prop :=
  a.ph = .sample ∨
    (a.ph = .wait ∧ tick = true ∧ a.tmr = 1 ∧ ∃ P, prog a.cur = some P ∧ stageAt P (a.stg.toNat + 1) = none)

/-- The node states that are abstract states (10_state.md R30). -/
def nodeLegal (v : NodeSt) : Bool := decide (v ≠ .code3)

/-- The storage states that are abstract states (10_state.md R30). -/
def storLegal (v : StorSt) : Bool := decide (v ≠ .code3)

/-- The network pairs that are abstract states: (0, 0), (1, 0) and (2, p) with p in 1..4 (10_state.md R30). -/
def netLegal (v : NetCell) : Bool :=
  match v.st with
  | .normal | .recovering => decide (v.port = 0#3)
  | .error => decide (1 ≤ v.port.toNat ∧ v.port.toNat ≤ 4)
  | .code3 => false

/-- The node pins in stage `i` of an iteration (43_node_animator.md R144 item 3). -/
def nodePins (v : NodeSt) (i : Nat) : Pins :=
  match v with
  | .normal => { norm := true, err := false, aux := false }
  | .error => { norm := false, err := true, aux := false }
  | .sync => { norm := false, err := false, aux := decide (i = 0) }
  | .code3 => Pins.dark

/-- The storage pins in stage `i` of an iteration (45_storage_animator.md R164). -/
def storPins (v : StorSt) (i : Nat) : Pins :=
  match v with
  | .normal => { norm := true, err := false, aux := false }
  | .error => { norm := false, err := true, aux := false }
  | .recovering => { norm := false, err := false, aux := decide (i = 0) }
  | .code3 => Pins.dark

/-- The network pins in stage `i` of an iteration: in Error(p) `err` is lit in the even stages below `2p`
(44_network_animator.md R155). -/
def netPins (v : NetCell) (i : Nat) : Pins :=
  match v.st with
  | .normal => { norm := true, err := false, aux := false }
  | .recovering => { norm := false, err := false, aux := decide (i = 0) }
  | .error => { norm := false, err := decide (i % 2 = 0 ∧ i < 2 * v.port.toNat), aux := false }
  | .code3 => Pins.dark

/-- An animator is dark before its first sample, and after it stands in a stage of the program it latched, with a
running timer and exactly the pins of that stage. -/
def AnimOk {σ : Type} (prog : σ → Option Program) (legal : σ → Bool) (pins : σ → Nat → Pins) (width : Nat)
    (a : Anim σ) : Prop :=
  legal a.cur = true ∧ a.tmr < 2 ^ width ∧
    (a.ph = .sample → a.lit = Pins.dark) ∧
    (a.ph = .wait → a.lit = pins a.cur a.stg.toNat ∧
      ∃ P st, prog a.cur = some P ∧ stageAt P a.stg.toNat = some st ∧ 1 ≤ a.tmr ∧ a.tmr ≤ st.wait)

/-- The invariant of the block. -/
structure BlockInv (s : State) : Prop where
  /-- The build parameters are those of a block (00_scope.md R8). -/
  params_ok : s.params.wellFormed = true
  /-- MODE never holds code 3 (10_state.md R23). -/
  mode_legal : s.mode ≠ .code3
  /-- A cause is recorded in HALT and only there (60_exceptions.md R194, R195). -/
  cause_iff_halt : s.haltCause = .none ↔ s.mode ≠ .halt
  /-- The store holds abstract states only (10_state.md R30). -/
  node_legal : nodeLegal s.nodeSt = true
  stor_legal : storLegal s.storSt = true
  net_legal : netLegal s.netCell = true
  /-- The counters are `CNT_WIDTH` bits wide (10_state.md R31). -/
  sync_fits : s.cntSync < 2 ^ s.params.cntWidth
  csum_fits : s.cntCsum < 2 ^ s.params.cntWidth
  ok_fits : s.cntOk < 2 ^ s.params.cntWidth
  undef_fits : s.cntUndef < 2 ^ s.params.cntWidth
  /-- Nothing has run yet in CHECK (70_reset_and_hazards.md R210, R211). -/
  check_fresh : s.mode = .check → s = State.atReset s.params s.cfg s.stim
  /-- RUN is entered with a valid configuration only (46_orchestrator.md R171). -/
  run_cfg : s.mode = .run → cfgOk s.params s.cfg = true
  /-- After a configuration error nothing has run and no pin was driven (46_orchestrator.md R171). -/
  config_halt : s.haltCause = .configError →
    cfgOk s.params s.cfg = false ∧ s = raiseHalt .configError (State.atReset s.params s.cfg s.stim)
  /-- The animators stand in their programs with the pins of their stages (R144, R155, R164). -/
  node_ok : AnimOk (nodeProgram s.params s.cfg) nodeLegal nodePins (tmrWidth s.params) s.node
  net_ok : AnimOk (netProgram s.params s.cfg) netLegal netPins (tmrWidth s.params) s.net
  stor_ok : AnimOk (storProgram s.params s.cfg) storLegal storPins (tmrWidth s.params) s.stor

end Sys2Proof.Machine
end

