-- ==== Sys2Proof/Certificates/Slice0/Obligations.lean ====
section
/-! DEFINITION. The statements for the provers, in the order of OBLIGATIONS.json: encodings and the checksum, the
decoder, the segment rows, the animators, the mode controller and the outputs, and the whole machine. -/

open Sys2Proof Sys2Proof.Machine

/-! ## Encodings and the checksum -/

/-- Decoding an encoded instruction gives it back and leaves the bytes after it; and whatever the decoder reads stands
in the bytes it took, the bits of the other segments masked off (30_encoding.md R60, R63 to R65, R73). -/
def Obligations.DecodeEncodeAgree : Prop :=
  (∀ (i : Instr) (rest : List Byte), decode (formatOf i) (encode i ++ rest) = .ok (i, rest)) ∧
  (∀ (f : Format) (bytes rest : List Byte) (i : Instr), decode f bytes = .ok (i, rest) →
    formatOf i = f ∧ ∃ used, bytes = used ++ rest ∧ used.map (fun b => b &&& formatMask f) = encode i)

/-- Words written out from the spec's tables decode to their instructions (30_encoding.md R63 to R65, R77). -/
def Obligations.WrittenWordsDecode : Prop :=
  decode .header0 [0x55#8] = .ok (.hdr0, []) ∧
  decode .header1 [0xAA#8] = .ok (.hdr1, []) ∧
  decodeTableWord 32 0x55AAC013 = some (.frame 0xC0#8 0x13#8) ∧
  decode .node [0x40#8] = .ok (.nodeSync, []) ∧
  decode .storage [0x30#8] = .ok (.storError, []) ∧
  decode .network [0x04#8] = .ok (.netErrorP3, [])

/-- The three masks are disjoint and cover the control byte, and the byte is the three encoded rows joined
(30_encoding.md R61, R62). -/
def Obligations.ControlByteIsItsThreeRows : Prop :=
  nodeMask = 0xC0#8 ∧ storageMask = 0x30#8 ∧ networkMask = 0x0F#8 ∧
  nodeMask &&& storageMask = 0#8 ∧ nodeMask &&& networkMask = 0#8 ∧ storageMask &&& networkMask = 0#8 ∧
  nodeMask ||| storageMask ||| networkMask = 0xFF#8 ∧
  ∀ c : Byte, encode (nodeRow c) = [c &&& 0xC0#8] ∧ encode (storageRow c) = [c &&& 0x30#8] ∧
    encode (networkRow c) = [c &&& 0x0F#8] ∧ (c &&& 0xC0#8) ||| (c &&& 0x30#8) ||| (c &&& 0x0F#8) = c

/-- The segment decode is total; and, as the spec infers, 54 control bytes have three defined segments and 202 have an
undefined one (30_encoding.md, "3 × 3 × 6 = 54 have all three segments defined"). -/
def Obligations.SegmentDecodeIsTotal : Prop :=
  (∀ c : Byte, (c &&& 0xC0#8) ∈ [0x00#8, 0x40#8, 0x80#8, 0xC0#8] ∧ (c &&& 0x30#8) ∈ [0x00#8, 0x10#8, 0x20#8, 0x30#8] ∧
    (c &&& 0x0F#8).toNat < 16) ∧
  (∀ c : Byte, formatOf (nodeRow c) = .node ∧ formatOf (storageRow c) = .storage ∧
    formatOf (networkRow c) = .network) ∧
  ((List.range 256).filter (fun n => undefCount (BitVec.ofNat 8 n) = 0)).length = 54 ∧
  ((List.range 256).filter (fun n => 1 ≤ undefCount (BitVec.ofNat 8 n))).length = 202

/-- `Dec(v)` is the minimal decimal numeral of the byte in ASCII (30_encoding.md R67). -/
def Obligations.DecimalTextOfByte : Prop :=
  ∀ v : Byte,
    (dec v).length = (if v.toNat < 10 then 1 else if v.toNat < 100 then 2 else 3) ∧
    (∀ d ∈ dec v, 0x30 ≤ d.toNat ∧ d.toNat ≤ 0x39) ∧
    (dec v).foldl (fun n d => n * 10 + (d.toNat - 0x30)) 0 = v.toNat ∧
    (v ≠ 0#8 → (dec v).head? ≠ some 0x30#8) ∧ dec 0#8 = [0x30#8]

/-- The published check value of the CRC and the checksums the spec works out (30_encoding.md R69, R70;
95_test_vectors.md 1.1, 1.3, 2.3). -/
def Obligations.ChecksumOfKnownTexts : Prop :=
  crc8 [0x31#8, 0x32#8, 0x33#8, 0x34#8, 0x35#8, 0x36#8, 0x37#8, 0x38#8, 0x39#8] = 0xF4#8 ∧
  text 0xC0#8 = [0x38#8, 0x35#8, 0x31#8, 0x37#8, 0x30#8, 0x31#8, 0x39#8, 0x32#8] ∧
  expectedCrc 0xC0#8 = 0x13#8 ∧ expectedCrc 0x55#8 = 0x74#8 ∧ expectedCrc 0x42#8 = 0xAB#8 ∧
  expectedCrc 0x00#8 = 0x70#8 ∧ expectedCrc 0x0F#8 = 0xC9#8 ∧ expectedCrc 0x80#8 = 0xB2#8

/-- With initial value 0 and no final XOR the CRC of a bitwise sum of two texts is the sum of their CRCs
(not a rule of the spec: it follows from the bit-serial form of 30_encoding.md section 3). -/
def Obligations.CrcIsLinear : Prop :=
  ∀ t u : List Byte, t.length = u.length →
    crc8 (List.zipWith (fun a b => a ^^^ b) t u) = crc8 t ^^^ crc8 u

/-- A frame with any one bit of its checksum flipped is dropped, whatever its control byte: an inference the spec draws
itself (40_frame_decoder.md section 3, "changing any one bit of `k`"). -/
def Obligations.OneBitChecksumErrorIsDropped : Prop :=
  ∀ (c : Byte) (i : Nat) (s : State), i < 8 →
    exec (.frame c (expectedCrc c ^^^ (1#8 <<< i))) s =
      .next { s with cntCsum := (s.cntCsum + 1) % 2 ^ s.params.cntWidth, decSt := .hunt }

/-- The flips of one control bit that the checksum does not detect: bit 5 of 0xC4, 0xE4, 0xC5 and 0xE5, and no other,
as the spec computes it (95_test_vectors.md 2.1, "Only two single-bit changes of a control byte go undetected"). -/
def Obligations.UndetectedControlBitFlips : Prop :=
  ∀ (c : Byte) (i : Nat), i < 8 →
    (expectedCrc (c ^^^ (1#8 <<< i)) = expectedCrc c ↔
      i = 5 ∧ (c = 0xC4#8 ∨ c = 0xE4#8 ∨ c = 0xC5#8 ∨ c = 0xE5#8))

/-! ## The frame decoder -/

/-- HDR0 moves the decoder to H1 and changes nothing else; 0x55 in HUNT is this instruction (40_frame_decoder.md
R81). -/
def Obligations.Hdr0StartsHeader : Prop :=
  (∀ s : State, exec .hdr0 s = .next { s with decSt := .h1 }) ∧
  (∀ s : State, s.decSt = .hunt →
    fetch 0x55#8 s = some .hdr0 ∧ decodeByte 0x55#8 s = .next { s with decSt := .h1 })

/-- HDR1 moves the decoder to CTRL and changes nothing else; 0xAA in H1 is this instruction (40_frame_decoder.md
R83). -/
def Obligations.Hdr1CompletesHeader : Prop :=
  (∀ s : State, exec .hdr1 s = .next { s with decSt := .ctrl }) ∧
  (∀ s : State, s.decSt = .h1 →
    fetch 0xAA#8 s = some .hdr1 ∧ decodeByte 0xAA#8 s = .next { s with decSt := .ctrl })

/-- A byte in HUNT that is not header0 is discarded and counted (40_frame_decoder.md R82). -/
def Obligations.HuntDiscardsAndCounts : Prop :=
  ∀ (b : Byte) (s : State), s.decSt = .hunt → b ≠ 0x55#8 →
    decodeByte b s = .next { s with decSt := .hunt, cntSync := (s.cntSync + 1) % 2 ^ s.params.cntWidth }

/-- A byte in H1 that is not header1 is discarded and counted, and is taken as a new header0 only where the parameter
says so (40_frame_decoder.md R84). -/
def Obligations.HeaderMismatchResynchronises : Prop :=
  ∀ (b : Byte) (s : State), s.decSt = .h1 → b ≠ 0xAA#8 →
    decodeByte b s =
      .next { s with
        decSt := if s.params.reexamineH1 = true ∧ b = 0x55#8 then .h1 else .hunt
        cntSync := (s.cntSync + 1) % 2 ^ s.params.cntWidth }

/-- Any byte in CTRL is latched as the control byte (40_frame_decoder.md R85). -/
def Obligations.ControlByteIsLatched : Prop :=
  ∀ (b : Byte) (s : State), s.decSt = .ctrl → decodeByte b s = .next { s with ctrlLatch := b, decSt := .csum }

/-- An accepted FRAME writes exactly the cells of its defined segments, counts the undefined ones and itself, and
returns the decoder to HUNT; the checksum byte in CSUM is this instruction (40_frame_decoder.md R86;
41_segment_mapping.md R100, R116). The premise is that CNT_UNDEF fits its width. -/
def Obligations.AcceptedFrameAppliesControl : Prop :=
  ∀ (c : Byte) (s : State), s.cntUndef < 2 ^ s.params.cntWidth →
    exec (.frame c (expectedCrc c)) s = .next (acceptedFrame c s) ∧
    (s.decSt = .csum → s.ctrlLatch = c → decodeByte (expectedCrc c) s = .next (acceptedFrame c s))

/-- A FRAME with another checksum is dropped: it is counted, the decoder returns to HUNT and nothing else changes
(40_frame_decoder.md R87). -/
def Obligations.RejectedFrameIsDropped : Prop :=
  ∀ (c k : Byte) (s : State), k ≠ expectedCrc c →
    exec (.frame c k) s =
      .next { s with cntCsum := (s.cntCsum + 1) % 2 ^ s.params.cntWidth, decSt := .hunt } ∧
    (s.decSt = .csum → s.ctrlLatch = c →
      decodeByte k s = .next { s with cntCsum := (s.cntCsum + 1) % 2 ^ s.params.cntWidth, decSt := .hunt })

/-- Accepting a frame is running its three segment rows in turn, then counting the frame (41_segment_mapping.md
R100). -/
def Obligations.AcceptRunsTheThreeRows : Prop :=
  ∀ (c : Byte) (s t u v : State), exec (nodeRow c) s = .next t → exec (storageRow c) t = .next u →
    exec (networkRow c) u = .next v →
    exec (.frame c (expectedCrc c)) s =
      .next { v with cntOk := (v.cntOk + 1) % 2 ^ v.params.cntWidth, decSt := .hunt }

/-- Without a byte the decoder writes nothing (40_frame_decoder.md R88); outside a stepping cycle it writes nothing
either, reset apart (R80). -/
def Obligations.DecoderIdlesWithoutByte : Prop :=
  (∀ s : State, decoderCycle none s = .next s) ∧
  (∀ s t : State, step s = .next t → (nextInput s).rst = false →
    ((nextInput s).rx = none ∨ runStep (nextInput s) s = false) → decoderRegs t = decoderRegs s)

/-- Every byte has exactly one decoder operation, which never changes the mode, the cause, a pin or an animator, and
writes the store only for an accepted frame, whose undefined segments leave their cells (60_exceptions.md R191). -/
def Obligations.RecoverableEventsStayInDecoder : Prop :=
  ∀ (b : Byte) (s : State), ∃ t, decodeByte b s = .next t ∧
    t.mode = s.mode ∧ t.haltCause = s.haltCause ∧ t.node = s.node ∧ t.net = s.net ∧ t.stor = s.stor ∧
    t.params = s.params ∧ t.cfg = s.cfg ∧ t.stim = s.stim ∧
    (¬ (s.decSt = .csum ∧ b = expectedCrc s.ctrlLatch) →
      t.nodeSt = s.nodeSt ∧ t.storSt = s.storSt ∧ t.netCell = s.netCell ∧ t.cntOk = s.cntOk ∧
        t.cntUndef = s.cntUndef) ∧
    (s.decSt = .csum → b = expectedCrc s.ctrlLatch →
      t.nodeSt = (nodeValue s.ctrlLatch).getD s.nodeSt ∧ t.storSt = (storageValue s.ctrlLatch).getD s.storSt ∧
      t.netCell = (networkValue s.ctrlLatch).getD s.netCell)

/-- Applying a control byte a second time leaves the store as it is: an inference the spec draws itself
(41_segment_mapping.md section 5, "Applying the same control byte twice in a row"). -/
def Obligations.RepeatedFrameKeepsStore : Prop :=
  ∀ (c : Byte) (s t u : State), exec (.frame c (expectedCrc c)) s = .next t →
    exec (.frame c (expectedCrc c)) t = .next u →
    u.nodeSt = t.nodeSt ∧ u.storSt = t.storSt ∧ u.netCell = t.netCell

/-- FRAMEF's codes are the inverse of the segment tables on every abstract state (30_encoding.md R76). -/
def Obligations.FramefCodesInvertTables : Prop :=
  ∀ (n : NodeSt) (v : StorSt) (w : NetCell), nodeLegal n = true → storLegal v = true → netLegal w = true →
    ∃ c, controlOf n v w = some c ∧ nodeValue c = some n ∧ storageValue c = some v ∧ networkValue c = some w

/-! ## The segment rows -/

/-- NODE_NORMAL, NODE_SYNC and NODE_ERROR: the raw values that decode to them, and their effect on every state
(41_segment_mapping.md R101 to R103). -/
def Obligations.NodeRowsWriteNodeCell : Prop :=
  (∀ c : Byte, (c &&& 0xC0#8 = 0x00#8 → nodeRow c = .nodeNormal) ∧ (c &&& 0xC0#8 = 0x40#8 → nodeRow c = .nodeSync) ∧
    (c &&& 0xC0#8 = 0xC0#8 → nodeRow c = .nodeError)) ∧
  ∀ s : State,
    exec .nodeNormal s = .next { s with nodeSt := .normal } ∧
    exec .nodeSync s = .next { s with nodeSt := .sync } ∧
    exec .nodeError s = .next { s with nodeSt := .error }

/-- NODE_UNDEF leaves the cell and counts one undefined segment, and the other segments of an accepted frame with it
are still applied (41_segment_mapping.md R104). -/
def Obligations.NodeUndefOnlyCounts : Prop :=
  (∀ c : Byte, c &&& 0xC0#8 = 0x80#8 → nodeRow c = .nodeUndef ∧
    ∀ s : State, ∃ t, exec (.frame c (expectedCrc c)) s = .next t ∧ t.nodeSt = s.nodeSt ∧
      t.storSt = (storageValue c).getD s.storSt ∧ t.netCell = (networkValue c).getD s.netCell) ∧
  ∀ s : State, exec .nodeUndef s = .next { s with cntUndef := (s.cntUndef + 1) % 2 ^ s.params.cntWidth }

/-- STOR_NORMAL, STOR_RECOVERING and STOR_ERROR (41_segment_mapping.md R105 to R107). -/
def Obligations.StorageRowsWriteStorageCell : Prop :=
  (∀ c : Byte, (c &&& 0x30#8 = 0x00#8 → storageRow c = .storNormal) ∧
    (c &&& 0x30#8 = 0x10#8 → storageRow c = .storRecovering) ∧ (c &&& 0x30#8 = 0x30#8 → storageRow c = .storError)) ∧
  ∀ s : State,
    exec .storNormal s = .next { s with storSt := .normal } ∧
    exec .storRecovering s = .next { s with storSt := .recovering } ∧
    exec .storError s = .next { s with storSt := .error }

/-- STOR_UNDEF leaves the cell and counts one undefined segment, and the other segments of an accepted frame with it
are still applied (41_segment_mapping.md R108). -/
def Obligations.StorageUndefOnlyCounts : Prop :=
  (∀ c : Byte, c &&& 0x30#8 = 0x20#8 → storageRow c = .storUndef ∧
    ∀ s : State, ∃ t, exec (.frame c (expectedCrc c)) s = .next t ∧ t.storSt = s.storSt ∧
      t.nodeSt = (nodeValue c).getD s.nodeSt ∧ t.netCell = (networkValue c).getD s.netCell) ∧
  ∀ s : State, exec .storUndef s = .next { s with cntUndef := (s.cntUndef + 1) % 2 ^ s.params.cntWidth }

/-- NET_NORMAL and NET_RECOVERING write the state and clear the port with it (41_segment_mapping.md R109, R110). -/
def Obligations.NetworkStateRowsClearPort : Prop :=
  (∀ c : Byte, (c &&& 0x0F#8 = 0x00#8 → networkRow c = .netNormal) ∧
    (c &&& 0x0F#8 = 0x0F#8 → networkRow c = .netRecovering)) ∧
  ∀ s : State,
    exec .netNormal s = .next { s with netCell := { st := .normal, port := 0#3 } } ∧
    exec .netRecovering s = .next { s with netCell := { st := .recovering, port := 0#3 } }

/-- NET_ERROR_P1 to NET_ERROR_P4: the set bit's place plus one is the port (41_segment_mapping.md R111 to R114). -/
def Obligations.NetworkErrorRowsWritePort : Prop :=
  (∀ c : Byte, (c &&& 0x0F#8 = 0x01#8 → networkRow c = .netErrorP1) ∧
    (c &&& 0x0F#8 = 0x02#8 → networkRow c = .netErrorP2) ∧ (c &&& 0x0F#8 = 0x04#8 → networkRow c = .netErrorP3) ∧
    (c &&& 0x0F#8 = 0x08#8 → networkRow c = .netErrorP4)) ∧
  ∀ s : State,
    exec .netErrorP1 s = .next { s with netCell := { st := .error, port := 1#3 } } ∧
    exec .netErrorP2 s = .next { s with netCell := { st := .error, port := 2#3 } } ∧
    exec .netErrorP3 s = .next { s with netCell := { st := .error, port := 3#3 } } ∧
    exec .netErrorP4 s = .next { s with netCell := { st := .error, port := 4#3 } }

/-- The ten undefined network values: each decodes to its own row, which leaves the cell and counts one undefined
segment, and the other segments of an accepted frame with it are still applied (41_segment_mapping.md R115). -/
def Obligations.NetworkUndefRowsOnlyCount : Prop :=
  ∀ p ∈ [(3, Instr.netUndef3), (5, .netUndef5), (6, .netUndef6), (7, .netUndef7), (9, .netUndef9), (10, .netUndef10),
      (11, .netUndef11), (12, .netUndef12), (13, .netUndef13), (14, .netUndef14)],
    (∀ c : Byte, (c &&& 0x0F#8).toNat = p.1 → networkRow c = p.2 ∧
      ∀ s : State, ∃ t, exec (.frame c (expectedCrc c)) s = .next t ∧ t.netCell = s.netCell ∧
        t.nodeSt = (nodeValue c).getD s.nodeSt ∧ t.storSt = (storageValue c).getD s.storSt) ∧
    ∀ s : State, exec p.2 s = .next { s with cntUndef := (s.cntUndef + 1) % 2 ^ s.params.cntWidth }

/-! ## The animators -/

/-- The actions of a stage run in order, each condition on the bits as the actions before it left them
(42_animator_engine.md R121). -/
def Obligations.PinActionsRunInOrder : Prop :=
  ∀ (r : Role) (a b : Actions) (l : Pins),
    runActions .done l = l ∧
    runActions (.setLit r a) l = runActions a (setPin l r true) ∧
    runActions (.setDark r a) l = runActions a (setPin l r false) ∧
    (litOf l r = true → runActions (.ifLit r b a) l = runActions a (runActions b l) ∧
      runActions (.ifDark r b a) l = runActions a l) ∧
    (litOf l r = false → runActions (.ifLit r b a) l = runActions a l ∧
      runActions (.ifDark r b a) l = runActions a (runActions b l)) ∧
    litOf (setPin l r true) r = true ∧ litOf (setPin l r false) r = false ∧
    (∀ q, q ≠ r → ∀ v, litOf (setPin l r v) q = litOf l q)

/-- What the node animator's samples do to pins in any state, and Sync's second stage (43_node_animator.md R140 to
R142). -/
def Obligations.NodeProgramsDrivePins : Prop :=
  ∀ (p : Params) (c : Cfg) (a : Anim NodeSt),
    sampleAnim (nodeProgram p c) .nodeCode3 .normal a =
      .ok { ph := .wait, cur := .normal, stg := 0#4, tmr := c.tIntNode,
            lit := if a.lit.norm then a.lit else { norm := true, err := false, aux := a.lit.aux } } ∧
    sampleAnim (nodeProgram p c) .nodeCode3 .error a =
      .ok { ph := .wait, cur := .error, stg := 0#4, tmr := c.tIntNode,
            lit := if a.lit.err then a.lit else { norm := false, err := true, aux := a.lit.aux } } ∧
    sampleAnim (nodeProgram p c) .nodeCode3 .sync a =
      .ok { ph := .wait, cur := .sync, stg := 0#4, tmr := tSlow p,
            lit := { norm := false, err := false, aux := true } } ∧
    (a.cur = .sync → a.stg = 0#4 → ∀ v,
      endStage (nodeProgram p c) .nodeCode3 v a =
        .ok { ph := .wait, cur := .sync, stg := 1#4, tmr := tSlow p, lit := { a.lit with aux := false } }) ∧
    (a.cur = .normal ∨ a.cur = .error ∨ (a.cur = .sync ∧ a.stg = 1#4) → ∀ v,
      endStage (nodeProgram p c) .nodeCode3 v a = sampleAnim (nodeProgram p c) .nodeCode3 v a)

/-- What the storage animator's samples do to pins in any state, and Recovering's second stage
(45_storage_animator.md R160 to R162). -/
def Obligations.StorageProgramsDrivePins : Prop :=
  ∀ (p : Params) (c : Cfg) (a : Anim StorSt),
    sampleAnim (storProgram p c) .storCode3 .normal a =
      .ok { ph := .wait, cur := .normal, stg := 0#4, tmr := c.tIntStor,
            lit := if a.lit.norm then a.lit else { norm := true, err := false, aux := a.lit.aux } } ∧
    sampleAnim (storProgram p c) .storCode3 .error a =
      .ok { ph := .wait, cur := .error, stg := 0#4, tmr := c.tIntStor,
            lit := if a.lit.err then a.lit else { norm := false, err := true, aux := a.lit.aux } } ∧
    sampleAnim (storProgram p c) .storCode3 .recovering a =
      .ok { ph := .wait, cur := .recovering, stg := 0#4, tmr := tSlow p,
            lit := { norm := false, err := false, aux := true } } ∧
    (a.cur = .recovering → a.stg = 0#4 → ∀ v,
      endStage (storProgram p c) .storCode3 v a =
        .ok { ph := .wait, cur := .recovering, stg := 1#4, tmr := tSlow p, lit := { a.lit with aux := false } }) ∧
    (a.cur = .normal ∨ a.cur = .error ∨ (a.cur = .recovering ∧ a.stg = 1#4) → ∀ v,
      endStage (storProgram p c) .storCode3 v a = sampleAnim (storProgram p c) .storCode3 v a)

/-- What the network animator's samples do in Normal, in Recovering and in Error with a port outside 1..4, and
Recovering's second stage (44_network_animator.md R150, R152, R153). -/
def Obligations.NetworkSteadyProgramsDrivePins : Prop :=
  ∀ (p : Params) (c : Cfg) (port : BitVec 3) (a : Anim NetCell),
    sampleAnim (netProgram p c) .netCode3 { st := .normal, port := port } a =
      .ok { ph := .wait, cur := { st := .normal, port := port }, stg := 0#4, tmr := c.tIntNet,
            lit := { a.lit with norm := true } } ∧
    sampleAnim (netProgram p c) .netCode3 { st := .recovering, port := port } a =
      .ok { ph := .wait, cur := { st := .recovering, port := port }, stg := 0#4, tmr := tSlow p,
            lit := { a.lit with norm := false, aux := true } } ∧
    (port.toNat = 0 ∨ 5 ≤ port.toNat →
      sampleAnim (netProgram p c) .netCode3 { st := .error, port := port } a =
        .ok { ph := .wait, cur := { st := .error, port := port }, stg := 0#4, tmr := p.tBadPort,
              lit := { a.lit with norm := false } }) ∧
    (a.cur.st = .recovering → a.stg = 0#4 → ∀ v,
      endStage (netProgram p c) .netCode3 v a =
        .ok { a with ph := .wait, stg := 1#4, tmr := tSlow p, lit := { a.lit with aux := false } }) ∧
    (a.cur.st = .normal ∨ (a.cur.st = .error ∧ (a.cur.port.toNat = 0 ∨ 5 ≤ a.cur.port.toNat)) ∨
        (a.cur.st = .recovering ∧ a.stg = 1#4) → ∀ v,
      endStage (netProgram p c) .netCode3 v a = sampleAnim (netProgram p c) .netCode3 v a)

/-- NET.ERROR(n) has `2n + 1` stages: `err` lit in the even ones below `2n` and dark in the odd ones, `T_FAST` each,
then a wait of `T_INT_NET` without an action (44_network_animator.md R151). -/
def Obligations.NetworkErrorBlinksPortTimes : Prop :=
  ∀ (p : Params) (c : Cfg) (port : BitVec 3), 1 ≤ port.toNat → port.toNat ≤ 4 →
    ∃ P, netProgram p c { st := .error, port := port } = some P ∧
      (stagesOf P).length = 2 * port.toNat + 1 ∧
      totalWait P = 2 * port.toNat * tFast p + c.tIntNet ∧
      (∀ i, i < 2 * port.toNat → ∃ st, stageAt P i = some st ∧ st.wait = tFast p ∧
        ∀ l, runActions st.actions l =
          { norm := if i = 0 then false else l.norm, err := decide (i % 2 = 0), aux := l.aux }) ∧
      (∃ st, stageAt P (2 * port.toNat) = some st ∧ st.wait = c.tIntNet ∧ ∀ l, runActions st.actions l = l)

/-- A register that holds code 3 has no program: the step that would sample it is refused, be the sample the first step
after reset or the one at the end of an iteration (43_node_animator.md R143; 44_network_animator.md R154;
45_storage_animator.md R163). -/
def Obligations.CodeThreeSampleIsRefused : Prop :=
  ∀ s : State, runStep (nextInput s) s = true → cfgChanges (nextInput s) s = false →
    ((SamplesNow (nodeProgram s.params s.cfg) (nextInput s).tick s.node ∧ s.nodeSt = .code3) ∨
      (SamplesNow (netProgram s.params s.cfg) (nextInput s).tick s.net ∧ s.netCell.st = .code3) ∨
      (SamplesNow (storProgram s.params s.cfg) (nextInput s).tick s.stor ∧ s.storSt = .code3)) →
    ∃ r, step s = .refused r

/-- An animator before its first sample samples with or without a tick strobe, and a waiting one stands still without
one. So an iteration lasts exactly as many tick strobes as its waits add up to, however many cycles lie between them and
whatever its store cell holds meanwhile: before that, the strobes so far alone give the stage, the rest of its wait and
the pins, which change only where a stage starts; and the strobe that ends the last wait samples the value the cell then
holds. The spec infers it from its stepping rules (42_animator_engine.md section 3, "an iteration of `Program_a(v)` lasts
exactly"). -/
def Obligations.IterationLastsItsTotalWait : Prop :=
  ∀ (σ : Type) (prog : σ → Option Program) (code3 : Refusal) (v : σ) (a : Anim σ),
    (a.ph = .sample → ∀ tick, stepAnim prog code3 v tick a = sampleAnim prog code3 v a) ∧
    (a.ph = .wait → stepAnim prog code3 v false a = .ok a) ∧
    ∀ (b : Anim σ) (P : Program), prog v = some P → (∀ st ∈ stagesOf P, 1 ≤ st.wait) → (stagesOf P).length ≤ 16 →
      sampleAnim prog code3 v a = .ok b → ∀ cycles : List (Bool × σ),
        (ticksIn cycles < totalWait P →
          ∃ i st, stageAt P i = some st ∧ waitBefore P i ≤ ticksIn cycles ∧
            ticksIn cycles < waitBefore P i + st.wait ∧
            runAnim prog code3 cycles b =
              .ok { ph := .wait, cur := v, stg := BitVec.ofNat 4 i, tmr := waitBefore P i + st.wait - ticksIn cycles,
                    lit := pinsAfter P (i + 1) a.lit }) ∧
        (ticksIn cycles + 1 = totalWait P → ∀ w,
          runAnim prog code3 (cycles ++ [(true, w)]) b =
            sampleAnim prog code3 w { a with lit := pinsAfter P (stagesOf P).length a.lit })

/-- From any place within an iteration the next sample comes within the iteration's length in tick strobes, however many
cycles lie between them, and takes the value the cell holds in the cycle of its strobe; until then the animator keeps
the value it latched. The spec infers it (70_reset_and_hazards.md section 2, "The wait from `w` to that sample is at most
one whole iteration"). -/
def Obligations.SampleWithinOneIteration : Prop :=
  ∀ (σ : Type) (prog : σ → Option Program) (code3 : Refusal) (a : Anim σ) (P : Program) (st : Stage)
    (cycles : List (Bool × σ)),
    a.ph = .wait → prog a.cur = some P → stageAt P a.stg.toNat = some st → 1 ≤ a.tmr → a.tmr ≤ st.wait →
    (∀ q ∈ stagesOf P, 1 ≤ q.wait) → (stagesOf P).length ≤ 16 → ticksIn cycles = totalWait P →
    ∃ n w e, cycles[n]? = some (true, w) ∧
      runAnim prog code3 (cycles.take (n + 1)) a = sampleAnim prog code3 w e ∧
      ∀ m, m ≤ n → ∃ d, runAnim prog code3 (cycles.take m) a = .ok d ∧ d.cur = a.cur ∧ d.ph = .wait

/-- In a stepping cycle every agent reads start-of-cycle values: each animator steps from the registers and the cell as
they were, and the decoder from its own (00_scope.md R6; 20_memory.md R43). The spec infers
"latches the old value" from it (70_reset_and_hazards.md section 2). -/
def Obligations.AgentsReadStartOfCycleValues : Prop :=
  ∀ s t : State, runStep (nextInput s) s = true → step s = .next t →
    stepAnim (nodeProgram s.params s.cfg) .nodeCode3 s.nodeSt (nextInput s).tick s.node = .ok t.node ∧
    stepAnim (netProgram s.params s.cfg) .netCode3 s.netCell (nextInput s).tick s.net = .ok t.net ∧
    stepAnim (storProgram s.params s.cfg) .storCode3 s.storSt (nextInput s).tick s.stor = .ok t.stor ∧
    (∃ u, decoderCycle (nextInput s).rx s = .next u ∧ decoderRegs t = decoderRegs u) ∧
    t.mode = .run ∧ t.haltCause = s.haltCause ∧ t.params = s.params ∧ t.cfg = s.cfg ∧ t.stim = s.stim.tail

/-- In a cycle in which `RunStep` does not hold no animator writes a register, reset apart, and in HALT they stay
frozen for any number of cycles without reset (42_animator_engine.md R125). -/
def Obligations.AnimatorsFreezeOutsideRunStep : Prop :=
  (∀ s t : State, step s = .next t → (nextInput s).rst = false → runStep (nextInput s) s = false →
    t.node = s.node ∧ t.net = s.net ∧ t.stor = s.stor) ∧
  (∀ (s t : State) (n : Nat), s.mode = .halt → (∀ i ∈ s.stim.take n, i.rst = false ∧ i.cfg = none) →
    Host.Core.run core n s = .next t → t.node = s.node ∧ t.net = s.net ∧ t.stor = s.stor)

/-- In a good state no subsystem shows `norm` and `err` together, nor `norm` and `aux`, and `aux` is lit only in the
first stage of a blinking iteration: the pin invariants that the spec infers
(43_node_animator.md, 44_network_animator.md and 45_storage_animator.md, "never both 1"). -/
def Obligations.PinsExcludeEachOther : Prop :=
  ∀ s : State, BlockInv s →
    ¬ (s.node.lit.norm = true ∧ s.node.lit.err = true) ∧ ¬ (s.net.lit.norm = true ∧ s.net.lit.err = true) ∧
    ¬ (s.stor.lit.norm = true ∧ s.stor.lit.err = true) ∧ ¬ (s.node.lit.norm = true ∧ s.node.lit.aux = true) ∧
    ¬ (s.net.lit.norm = true ∧ s.net.lit.aux = true) ∧ ¬ (s.stor.lit.norm = true ∧ s.stor.lit.aux = true) ∧
    (s.node.lit.aux = true → s.node.ph = .wait ∧ s.node.cur = .sync ∧ s.node.stg = 0#4) ∧
    (s.net.lit.aux = true → s.net.ph = .wait ∧ s.net.cur.st = .recovering ∧ s.net.stg = 0#4) ∧
    (s.stor.lit.aux = true → s.stor.ph = .wait ∧ s.stor.cur = .recovering ∧ s.stor.stg = 0#4) ∧
    (s.net.lit.err = true → s.net.ph = .wait ∧ s.net.cur.st = .error ∧ s.net.stg.toNat % 2 = 0 ∧
      s.net.stg.toNat < 2 * s.net.cur.port.toNat)

/-! ## The mode controller and the outputs -/

/-- What makes a configuration valid (46_orchestrator.md R170). -/
def Obligations.CfgOkMeansValidConfiguration : Prop :=
  ∀ (p : Params) (c : Cfg), cfgOk p c = true ↔
    (∀ q ∈ [c.node.norm, c.node.err, c.node.aux, c.net.norm, c.net.err, c.net.aux, c.stor.norm, c.stor.err,
        c.stor.aux], q < p.numGpio) ∧
    [c.node.norm, c.node.err, c.node.aux, c.net.norm, c.net.err, c.net.aux, c.stor.norm, c.stor.err,
      c.stor.aux].Pairwise (fun a b => a ≠ b) ∧
    (1 ≤ c.tIntNode ∧ c.tIntNode ≤ 2 ^ tmrWidth p - 1) ∧ (1 ≤ c.tIntNet ∧ c.tIntNet ≤ 2 ^ tmrWidth p - 1) ∧
    (1 ≤ c.tIntStor ∧ c.tIntStor ≤ 2 ^ tmrWidth p - 1)

/-- The CHECK cycle: to RUN with a valid configuration, to HALT with CONFIG_ERROR otherwise; every other input is
ignored and nothing else is written (46_orchestrator.md R171). -/
def Obligations.CheckCycleDecidesMode : Prop :=
  ∀ s : State, s.mode = .check → (nextInput s).rst = false → cfgChanges (nextInput s) s = false →
    (cfgOk s.params s.cfg = true → step s = .next { s with mode := .run, stim := s.stim.tail }) ∧
    (cfgOk s.params s.cfg = false →
      step s = .next { s with mode := .halt, haltCause := .configError, stim := s.stim.tail })

/-- An I/O error or a shutdown in RUN halts the block in that cycle, the I/O error first, and writes MODE and
HALT_CAUSE only (46_orchestrator.md R172; 60_exceptions.md R193, R194). -/
def Obligations.HaltEventWritesModeAndCauseOnly : Prop :=
  ∀ s : State, s.mode = .run → (nextInput s).rst = false → cfgChanges (nextInput s) s = false →
    ((nextInput s).ioErr = true →
      step s = .next { s with mode := .halt, haltCause := .ioError, stim := s.stim.tail }) ∧
    ((nextInput s).ioErr = false → (nextInput s).shutdown = true →
      step s = .next { s with mode := .halt, haltCause := .shutdown, stim := s.stim.tail })

/-- In HALT nothing is written, for any number of cycles without reset and whatever the other inputs are
(46_orchestrator.md R173; 60_exceptions.md R195). -/
def Obligations.HaltIsLeftByResetOnly : Prop :=
  ∀ (s : State) (n : Nat), s.mode = .halt →
    (∀ i ∈ s.stim.take n, i.rst = false ∧ i.cfg = none) →
    Host.Core.run core n s = .next { s with stim := s.stim.drop n }

/-- `RunStep` is the conjunction of R174, and the decoder and the animators step in exactly the cycles in which it
holds (46_orchestrator.md R174). -/
def Obligations.RunStepGatesTheAgents : Prop :=
  ∀ s : State,
    (runStep (nextInput s) s = true ↔
      (nextInput s).rst = false ∧ s.mode = .run ∧ (nextInput s).ioErr = false ∧ (nextInput s).shutdown = false) ∧
    (runStep (nextInput s) s = true → cfgChanges (nextInput s) s = false →
      step s = runCycle (nextInput s) (takeInput s)) ∧
    (∀ t, runStep (nextInput s) s = false → (nextInput s).rst = false → step s = .next t →
      decoderRegs t = decoderRegs s ∧ t.node = s.node ∧ t.net = s.net ∧ t.stor = s.stor)

/-- The only ways from one mode to another (46_orchestrator.md R171 to R173; 60_exceptions.md R197). -/
def Obligations.ModeChangesOnlyByTheseEvents : Prop :=
  ∀ s t : State, step s = .next t → (nextInput s).rst = false →
    (t.mode = .check → False) ∧
    (t.mode = .run → s.mode = .run ∨ (s.mode = .check ∧ cfgOk s.params s.cfg = true)) ∧
    (t.mode = .halt → s.mode = .halt ∨
      (s.mode = .check ∧ cfgOk s.params s.cfg = false ∧ t.haltCause = .configError) ∨
      (s.mode = .run ∧ (nextInput s).ioErr = true ∧ t.haltCause = .ioError) ∨
      (s.mode = .run ∧ (nextInput s).ioErr = false ∧ (nextInput s).shutdown = true ∧ t.haltCause = .shutdown)) ∧
    (t.mode = s.mode → t.haltCause = s.haltCause) ∧
    t.params = s.params ∧ t.cfg = s.cfg

/-- MODE with code 3 is refused, and so is a changed configuration, in a cycle without reset (10_state.md R23;
46_orchestrator.md R180). That it holds in CHECK too, and what is refused first, is the model's choice (log entry
7). -/
def Obligations.CodeThreeAndNewConfigRefused : Prop :=
  ∀ s : State, (nextInput s).rst = false →
    (s.mode = .code3 → cfgChanges (nextInput s) s = false → step s = .refused .modeCode3) ∧
    (∀ c, (nextInput s).cfg = some c → c ≠ s.cfg → step s = .refused .configChanged)

/-- A cycle with `rst = 1` gives every register its reset value from any state at all, and does nothing else
(70_reset_and_hazards.md R210). What it leaves of the model's own carriers is the model's choice: the parameters stay
(log entry 2), the cycle's inputs are used up (log entry 1), and the configuration inputs are the cycle's where it brings
any (log entry 7). -/
def Obligations.ResetFromAnyState : Prop :=
  ∀ s : State, (nextInput s).rst = true → ∃ t, step s = .next t ∧
    t.mode = .check ∧ t.haltCause = .none ∧ t.decSt = .hunt ∧ t.ctrlLatch = 0x00#8 ∧
    t.nodeSt = .normal ∧ t.storSt = .normal ∧ t.netCell = { st := .normal, port := 0#3 } ∧
    t.cntSync = 0 ∧ t.cntCsum = 0 ∧ t.cntOk = 0 ∧ t.cntUndef = 0 ∧
    t.node = { ph := .sample, cur := .normal, stg := 0#4, tmr := 0, lit := ⟨false, false, false⟩ } ∧
    t.net = { ph := .sample, cur := { st := .normal, port := 0#3 }, stg := 0#4, tmr := 0, lit := ⟨false, false, false⟩ } ∧
    t.stor = { ph := .sample, cur := .normal, stg := 0#4, tmr := 0, lit := ⟨false, false, false⟩ } ∧
    t.params = s.params ∧ t.stim = s.stim.tail ∧ t.cfg = (nextInput s).cfg.getD s.cfg

/-- The start-up sequence: CHECK with all pins released, the first RUN cycle with the nine pins driven dark and its byte
consumed, and one cycle later the three `norm` pins lit and the others dark; with an invalid configuration HALT instead,
with no pin driven (70_reset_and_hazards.md section 1). -/
def Obligations.StartUpSequence : Prop :=
  ∀ (p : Params) (c : Cfg) (i j : CycleIn) (rest : List CycleIn), i.rst = false → i.cfg = none →
    (∀ q, gpioOe (State.atReset p c (i :: j :: rest)) q = false) ∧
    (cfgOk p c = false → ∃ t, step (State.atReset p c (i :: j :: rest)) = .next t ∧ t.mode = .halt ∧
      t.haltCause = .configError ∧ ∀ q, gpioOe t q = false) ∧
    (cfgOk p c = true → ∃ t, step (State.atReset p c (i :: j :: rest)) = .next t ∧ t.mode = .run ∧
      (∀ q ∈ pinList c, gpioOe t q = true ∧ gpioO t q = c.darkLevel) ∧
      (j.rst = false → j.cfg = none → j.ioErr = false → j.shutdown = false → ∃ u, step t = .next u ∧ u.mode = .run ∧
        (∃ v, decoderCycle j.rx t = .next v ∧ decoderRegs u = decoderRegs v) ∧
        u.node = { ph := .wait, cur := .normal, stg := 0#4, tmr := c.tIntNode, lit := ⟨true, false, false⟩ } ∧
        u.net = { ph := .wait, cur := { st := .normal, port := 0#3 }, stg := 0#4, tmr := c.tIntNet,
                  lit := ⟨true, false, false⟩ } ∧
        u.stor = { ph := .wait, cur := .normal, stg := 0#4, tmr := c.tIntStor, lit := ⟨true, false, false⟩ } ∧
        (∀ q ∈ [c.node.norm, c.net.norm, c.stor.norm], gpioO u q = c.lightLevel) ∧
        (∀ q ∈ [c.node.err, c.node.aux, c.net.err, c.net.aux, c.stor.err, c.stor.aux], gpioO u q = c.darkLevel)))

/-- The output multiplexer: in RUN each configured pin is driven at the level of its bit, and every other pin, and
every pin outside RUN, is not driven (46_orchestrator.md R175, R176). -/
def Obligations.PinOutputsFollowLit : Prop :=
  ∀ s : State,
    (s.mode = .run → cfgOk s.params s.cfg = true →
      (∀ e ∈ [(s.cfg.node.norm, s.node.lit.norm), (s.cfg.node.err, s.node.lit.err), (s.cfg.node.aux, s.node.lit.aux),
          (s.cfg.net.norm, s.net.lit.norm), (s.cfg.net.err, s.net.lit.err), (s.cfg.net.aux, s.net.lit.aux),
          (s.cfg.stor.norm, s.stor.lit.norm), (s.cfg.stor.err, s.stor.lit.err), (s.cfg.stor.aux, s.stor.lit.aux)],
        gpioOe s e.1 = true ∧ gpioO s e.1 = if e.2 then s.cfg.lightLevel else s.cfg.darkLevel) ∧
      (∀ q, q ∉ pinList s.cfg → gpioOe s q = false ∧ gpioO s q = false)) ∧
    (s.mode ≠ .run → ∀ q, gpioOe s q = false ∧ gpioO s q = false)

/-- The output ports: each status output, with the codes of the registers it shows, the counters, and the pins listed
by number (10_state.md R22; 46_orchestrator.md R177). -/
def Obligations.StatusOutputsShowTheHalt : Prop :=
  ∀ s : State,
    ((outputs s).halted = true ↔ s.mode = .halt) ∧
    ((outputs s).errorExit = true ↔ s.haltCause = .ioError ∨ s.haltCause = .configError) ∧
    ((s.haltCause = .none → (outputs s).haltCause = 0#2) ∧ (s.haltCause = .shutdown → (outputs s).haltCause = 1#2) ∧
      (s.haltCause = .ioError → (outputs s).haltCause = 2#2) ∧
      (s.haltCause = .configError → (outputs s).haltCause = 3#2)) ∧
    ((s.nodeSt = .normal → (outputs s).nodeState = 0#2) ∧ (s.nodeSt = .sync → (outputs s).nodeState = 1#2) ∧
      (s.nodeSt = .error → (outputs s).nodeState = 2#2)) ∧
    ((s.storSt = .normal → (outputs s).storageState = 0#2) ∧
      (s.storSt = .recovering → (outputs s).storageState = 1#2) ∧
      (s.storSt = .error → (outputs s).storageState = 2#2)) ∧
    ((s.netCell.st = .normal → (outputs s).networkState = 0#2) ∧
      (s.netCell.st = .recovering → (outputs s).networkState = 1#2) ∧
      (s.netCell.st = .error → (outputs s).networkState = 2#2)) ∧
    (outputs s).networkPort = s.netCell.port ∧
    ((outputs s).cntSync = s.cntSync ∧ (outputs s).cntCsum = s.cntCsum ∧ (outputs s).cntOk = s.cntOk ∧
      (outputs s).cntUndef = s.cntUndef) ∧
    ((outputs s).gpioO.length = s.params.numGpio ∧ (outputs s).gpioOe.length = s.params.numGpio ∧
      ∀ q, q < s.params.numGpio →
        (outputs s).gpioO[q]? = some (gpioO s q) ∧ (outputs s).gpioOe[q]? = some (gpioOe s q))

/-- With equal light and dark levels every configured pin shows that level in RUN, and the check does not reject such
a configuration: the spec infers it (46_orchestrator.md, "every configured pin shows that one level"). -/
def Obligations.EqualLevelsShowOneLevel : Prop :=
  (∀ s : State, s.mode = .run → s.cfg.lightLevel = s.cfg.darkLevel →
    ∀ q ∈ pinList s.cfg, gpioOe s q = true ∧ gpioO s q = s.cfg.lightLevel) ∧
  (∀ (p : Params) (c : Cfg) (x y : Bool), cfgOk p { c with lightLevel := x, darkLevel := y } = cfgOk p c)

/-! ## The whole machine -/

/-- A step whose byte decodes to an instruction runs that instruction on the state the animators' steps leave, which
differs from the state before in the animators and the consumed input only; a byte that decodes to none has its other
operation (40_frame_decoder.md R80, R81, R83, R86). That the animators step first, and that `exec` runs on the state they
leave, is the model's choice (log entry 6): the spec has all agents step at once, and `AgentsReadStartOfCycleValues`
says that the two agree. -/
def Obligations.StepRunsDecodedInstruction : Prop :=
  (∀ (b : Byte) (s : State) (i : Instr), fetch b s = some i ↔
    (s.decSt = .hunt ∧ decode .header0 [b] = .ok (i, [])) ∨ (s.decSt = .h1 ∧ decode .header1 [b] = .ok (i, [])) ∨
    (s.decSt = .csum ∧ decode .frame [0x55#8, 0xAA#8, s.ctrlLatch, b] = .ok (i, []))) ∧
  (∀ (s u : State) (b : Byte), runStep (nextInput s) s = true → cfgChanges (nextInput s) s = false →
    (nextInput s).rx = some b → animatorsCycle (nextInput s).tick (takeInput s) = .next u →
    u = { s with stim := s.stim.tail, node := u.node, net := u.net, stor := u.stor } ∧
    (∀ i, fetch b s = some i → step s = exec i u) ∧
    (fetch b s = none → step s = .next (withoutInstr b u)))

/-- Four bytes delivered to a hunting decoder in a good RUN state leave its registers as the FRAME instruction does,
accepted or dropped (40_frame_decoder.md R81 to R87). -/
def Obligations.FourBytesRunFrame : Prop :=
  ∀ (s : State) (c k : Byte) (rest : List CycleIn), BlockInv s → s.mode = .run → s.decSt = .hunt →
    s.stim = [byteCycle 0x55#8, byteCycle 0xAA#8, byteCycle c, byteCycle k] ++ rest →
    ∃ t u, Host.Core.run core 4 s = .next t ∧ exec (.frame c k) { s with ctrlLatch := c } = .next u ∧
      decoderRegs t = decoderRegs u ∧ t.mode = .run ∧ t.stim = rest

/-- A stream without the bytes 0x55, 0xAA in a row never takes a hunting decoder past H1, writes no store cell and
halts nothing, at any point of it: the spec infers it (40_frame_decoder.md section 3, "never enters `CTRL`, never writes
the store and never halts"). -/
def Obligations.ResyncWithoutHeaderPair : Prop :=
  ∀ (bytes : List Byte) (rest : List CycleIn) (s : State) (n : Nat), BlockInv s → s.mode = .run → s.decSt = .hunt →
    NoHeaderPair bytes → s.stim = bytes.map byteCycle ++ rest → n ≤ bytes.length →
    ∃ t, Host.Core.run core n s = .next t ∧ t.mode = .run ∧ t.haltCause = s.haltCause ∧
      (t.decSt = .hunt ∨ (t.decSt = .h1 ∧ (bytes.take n).getLast? = some 0x55#8)) ∧
      t.ctrlLatch = s.ctrlLatch ∧ t.nodeSt = s.nodeSt ∧ t.storSt = s.storSt ∧ t.netCell = s.netCell ∧
      t.cntOk = s.cntOk ∧ t.cntCsum = s.cntCsum ∧ t.cntUndef = s.cntUndef

/-- By default a frame behind a stray 0x55 is lost: its control and checksum bytes are searched for a header
The spec infers it (70_reset_and_hazards.md section 2, "is lost: in `55 55 AA c k`"). -/
def Obligations.FrameBehindStrayByteIsLost : Prop :=
  ∀ (s : State) (c k : Byte) (rest : List CycleIn), BlockInv s → s.mode = .run → s.decSt = .hunt →
    s.params.reexamineH1 = false →
    s.stim = [byteCycle 0x55#8, byteCycle 0x55#8, byteCycle 0xAA#8, byteCycle c, byteCycle k] ++ rest →
    ∃ t, Host.Core.run core 5 s = .next t ∧ t.nodeSt = s.nodeSt ∧ t.storSt = s.storSt ∧ t.netCell = s.netCell ∧
      t.cntOk = s.cntOk ∧ t.cntCsum = s.cntCsum ∧ t.cntUndef = s.cntUndef ∧ t.ctrlLatch = s.ctrlLatch ∧
      t.decSt = (if c = 0x55#8 then (if k = 0xAA#8 then .ctrl else .hunt) else if k = 0x55#8 then .h1 else .hunt)

/-- A stray header captures the header of the frame behind it, which is dropped, whatever the reexamine parameter; the
true frame's control and checksum bytes are then searched for a header. The spec infers it
(70_reset_and_hazards.md section 2, "A stray `55 AA` takes the next two bytes"). -/
def Obligations.StrayHeaderCapturesHeader : Prop :=
  ∀ (s : State) (rest : List CycleIn), BlockInv s → s.mode = .run → s.decSt = .hunt →
    s.stim = [byteCycle 0x55#8, byteCycle 0xAA#8, byteCycle 0x55#8, byteCycle 0xAA#8] ++ rest →
    ∃ t, Host.Core.run core 4 s = .next t ∧ t.decSt = .hunt ∧ t.ctrlLatch = 0x55#8 ∧
      t.cntCsum = (s.cntCsum + 1) % 2 ^ s.params.cntWidth ∧ t.cntOk = s.cntOk ∧ t.cntSync = s.cntSync ∧
      t.nodeSt = s.nodeSt ∧ t.storSt = s.storSt ∧ t.netCell = s.netCell ∧ t.stim = rest

/-- No agent reads another's registers but for its own store cell: the decoder's registers after a step depend on its
own, and each animator's on its own and its cell (10_state.md R35; 42_animator_engine.md R127). -/
def Obligations.AgentsDoNotInterfere : Prop :=
  ∀ s t s' t' : State, step s = .next s' → step t = .next t' → nextInput s = nextInput t → s.mode = t.mode →
    s.params = t.params → s.cfg = t.cfg →
    (decoderRegs s = decoderRegs t → decoderRegs s' = decoderRegs t') ∧
    (s.node = t.node → s.nodeSt = t.nodeSt → s'.node = t'.node) ∧
    (s.net = t.net → s.netCell = t.netCell → s'.net = t'.net) ∧
    (s.stor = t.stor → s.storSt = t.storSt → s'.stor = t'.stor)

/-- The invariant holds right after reset, for every build with well-formed parameters, every configuration and every
stimulus (70_reset_and_hazards.md R210), and so at `State.reset`. -/
def Obligations.InvAtReset : Prop :=
  (∀ (p : Params) (c : Cfg) (stim : List CycleIn), p.wellFormed = true → BlockInv (State.atReset p c stim)) ∧
  BlockInv State.reset

/-- Every step keeps the invariant, from every state that has it (10_state.md, 43_node_animator.md,
44_network_animator.md and 45_storage_animator.md infer its parts). -/
def Obligations.StepKeepsInv : Prop :=
  ∀ s t : State, BlockInv s → step s = .next t → BlockInv t

/-- A good state always steps: nothing but a stimulus that changes the configuration without reset stops the block
(93_implementation_defined.md section 2, 46_orchestrator.md R180). -/
def Obligations.GoodStateAlwaysSteps : Prop :=
  ∀ s : State, BlockInv s → ((nextInput s).rst = true ∨ cfgChanges (nextInput s) s = false) → ∃ t, step s = .next t
end

