-- ==== Sys2Proof/Laws/State.lean ====
section
/-! SUPPORT. One lemma per field per update of the state, so that no proof unfolds a record update. -/

namespace Sys2Proof.Machine

section
variable (s : State)

@[simp] theorem writeNode_params (v : NodeSt) : (writeNode v s).params = s.params := rfl
@[simp] theorem writeNode_cfg (v : NodeSt) : (writeNode v s).cfg = s.cfg := rfl
@[simp] theorem writeNode_stim (v : NodeSt) : (writeNode v s).stim = s.stim := rfl
@[simp] theorem writeNode_mode (v : NodeSt) : (writeNode v s).mode = s.mode := rfl
@[simp] theorem writeNode_haltCause (v : NodeSt) : (writeNode v s).haltCause = s.haltCause := rfl
@[simp] theorem writeNode_decSt (v : NodeSt) : (writeNode v s).decSt = s.decSt := rfl
@[simp] theorem writeNode_ctrlLatch (v : NodeSt) : (writeNode v s).ctrlLatch = s.ctrlLatch := rfl
@[simp] theorem writeNode_nodeSt (v : NodeSt) : (writeNode v s).nodeSt = v := rfl
@[simp] theorem writeNode_storSt (v : NodeSt) : (writeNode v s).storSt = s.storSt := rfl
@[simp] theorem writeNode_netCell (v : NodeSt) : (writeNode v s).netCell = s.netCell := rfl
@[simp] theorem writeNode_cntSync (v : NodeSt) : (writeNode v s).cntSync = s.cntSync := rfl
@[simp] theorem writeNode_cntCsum (v : NodeSt) : (writeNode v s).cntCsum = s.cntCsum := rfl
@[simp] theorem writeNode_cntOk (v : NodeSt) : (writeNode v s).cntOk = s.cntOk := rfl
@[simp] theorem writeNode_cntUndef (v : NodeSt) : (writeNode v s).cntUndef = s.cntUndef := rfl
@[simp] theorem writeNode_node (v : NodeSt) : (writeNode v s).node = s.node := rfl
@[simp] theorem writeNode_net (v : NodeSt) : (writeNode v s).net = s.net := rfl
@[simp] theorem writeNode_stor (v : NodeSt) : (writeNode v s).stor = s.stor := rfl

@[simp] theorem writeStor_params (v : StorSt) : (writeStor v s).params = s.params := rfl
@[simp] theorem writeStor_cfg (v : StorSt) : (writeStor v s).cfg = s.cfg := rfl
@[simp] theorem writeStor_stim (v : StorSt) : (writeStor v s).stim = s.stim := rfl
@[simp] theorem writeStor_mode (v : StorSt) : (writeStor v s).mode = s.mode := rfl
@[simp] theorem writeStor_haltCause (v : StorSt) : (writeStor v s).haltCause = s.haltCause := rfl
@[simp] theorem writeStor_decSt (v : StorSt) : (writeStor v s).decSt = s.decSt := rfl
@[simp] theorem writeStor_ctrlLatch (v : StorSt) : (writeStor v s).ctrlLatch = s.ctrlLatch := rfl
@[simp] theorem writeStor_nodeSt (v : StorSt) : (writeStor v s).nodeSt = s.nodeSt := rfl
@[simp] theorem writeStor_storSt (v : StorSt) : (writeStor v s).storSt = v := rfl
@[simp] theorem writeStor_netCell (v : StorSt) : (writeStor v s).netCell = s.netCell := rfl
@[simp] theorem writeStor_cntSync (v : StorSt) : (writeStor v s).cntSync = s.cntSync := rfl
@[simp] theorem writeStor_cntCsum (v : StorSt) : (writeStor v s).cntCsum = s.cntCsum := rfl
@[simp] theorem writeStor_cntOk (v : StorSt) : (writeStor v s).cntOk = s.cntOk := rfl
@[simp] theorem writeStor_cntUndef (v : StorSt) : (writeStor v s).cntUndef = s.cntUndef := rfl
@[simp] theorem writeStor_node (v : StorSt) : (writeStor v s).node = s.node := rfl
@[simp] theorem writeStor_net (v : StorSt) : (writeStor v s).net = s.net := rfl
@[simp] theorem writeStor_stor (v : StorSt) : (writeStor v s).stor = s.stor := rfl

@[simp] theorem writeNet_params (v : NetSt) (q : BitVec 3) : (writeNet v q s).params = s.params := rfl
@[simp] theorem writeNet_cfg (v : NetSt) (q : BitVec 3) : (writeNet v q s).cfg = s.cfg := rfl
@[simp] theorem writeNet_stim (v : NetSt) (q : BitVec 3) : (writeNet v q s).stim = s.stim := rfl
@[simp] theorem writeNet_mode (v : NetSt) (q : BitVec 3) : (writeNet v q s).mode = s.mode := rfl
@[simp] theorem writeNet_haltCause (v : NetSt) (q : BitVec 3) : (writeNet v q s).haltCause = s.haltCause := rfl
@[simp] theorem writeNet_decSt (v : NetSt) (q : BitVec 3) : (writeNet v q s).decSt = s.decSt := rfl
@[simp] theorem writeNet_ctrlLatch (v : NetSt) (q : BitVec 3) : (writeNet v q s).ctrlLatch = s.ctrlLatch := rfl
@[simp] theorem writeNet_nodeSt (v : NetSt) (q : BitVec 3) : (writeNet v q s).nodeSt = s.nodeSt := rfl
@[simp] theorem writeNet_storSt (v : NetSt) (q : BitVec 3) : (writeNet v q s).storSt = s.storSt := rfl
@[simp] theorem writeNet_netCell (v : NetSt) (q : BitVec 3) : (writeNet v q s).netCell = { st := v, port := q } := rfl
@[simp] theorem writeNet_cntSync (v : NetSt) (q : BitVec 3) : (writeNet v q s).cntSync = s.cntSync := rfl
@[simp] theorem writeNet_cntCsum (v : NetSt) (q : BitVec 3) : (writeNet v q s).cntCsum = s.cntCsum := rfl
@[simp] theorem writeNet_cntOk (v : NetSt) (q : BitVec 3) : (writeNet v q s).cntOk = s.cntOk := rfl
@[simp] theorem writeNet_cntUndef (v : NetSt) (q : BitVec 3) : (writeNet v q s).cntUndef = s.cntUndef := rfl
@[simp] theorem writeNet_node (v : NetSt) (q : BitVec 3) : (writeNet v q s).node = s.node := rfl
@[simp] theorem writeNet_net (v : NetSt) (q : BitVec 3) : (writeNet v q s).net = s.net := rfl
@[simp] theorem writeNet_stor (v : NetSt) (q : BitVec 3) : (writeNet v q s).stor = s.stor := rfl

@[simp] theorem setDecSt_params (d : DecSt) : (setDecSt d s).params = s.params := rfl
@[simp] theorem setDecSt_cfg (d : DecSt) : (setDecSt d s).cfg = s.cfg := rfl
@[simp] theorem setDecSt_stim (d : DecSt) : (setDecSt d s).stim = s.stim := rfl
@[simp] theorem setDecSt_mode (d : DecSt) : (setDecSt d s).mode = s.mode := rfl
@[simp] theorem setDecSt_haltCause (d : DecSt) : (setDecSt d s).haltCause = s.haltCause := rfl
@[simp] theorem setDecSt_decSt (d : DecSt) : (setDecSt d s).decSt = d := rfl
@[simp] theorem setDecSt_ctrlLatch (d : DecSt) : (setDecSt d s).ctrlLatch = s.ctrlLatch := rfl
@[simp] theorem setDecSt_nodeSt (d : DecSt) : (setDecSt d s).nodeSt = s.nodeSt := rfl
@[simp] theorem setDecSt_storSt (d : DecSt) : (setDecSt d s).storSt = s.storSt := rfl
@[simp] theorem setDecSt_netCell (d : DecSt) : (setDecSt d s).netCell = s.netCell := rfl
@[simp] theorem setDecSt_cntSync (d : DecSt) : (setDecSt d s).cntSync = s.cntSync := rfl
@[simp] theorem setDecSt_cntCsum (d : DecSt) : (setDecSt d s).cntCsum = s.cntCsum := rfl
@[simp] theorem setDecSt_cntOk (d : DecSt) : (setDecSt d s).cntOk = s.cntOk := rfl
@[simp] theorem setDecSt_cntUndef (d : DecSt) : (setDecSt d s).cntUndef = s.cntUndef := rfl
@[simp] theorem setDecSt_node (d : DecSt) : (setDecSt d s).node = s.node := rfl
@[simp] theorem setDecSt_net (d : DecSt) : (setDecSt d s).net = s.net := rfl
@[simp] theorem setDecSt_stor (d : DecSt) : (setDecSt d s).stor = s.stor := rfl

@[simp] theorem countSync_params : (countSync s).params = s.params := rfl
@[simp] theorem countSync_cfg : (countSync s).cfg = s.cfg := rfl
@[simp] theorem countSync_stim : (countSync s).stim = s.stim := rfl
@[simp] theorem countSync_mode : (countSync s).mode = s.mode := rfl
@[simp] theorem countSync_haltCause : (countSync s).haltCause = s.haltCause := rfl
@[simp] theorem countSync_decSt : (countSync s).decSt = s.decSt := rfl
@[simp] theorem countSync_ctrlLatch : (countSync s).ctrlLatch = s.ctrlLatch := rfl
@[simp] theorem countSync_nodeSt : (countSync s).nodeSt = s.nodeSt := rfl
@[simp] theorem countSync_storSt : (countSync s).storSt = s.storSt := rfl
@[simp] theorem countSync_netCell : (countSync s).netCell = s.netCell := rfl
@[simp] theorem countSync_cntSync : (countSync s).cntSync = bump s.params s.cntSync := rfl
@[simp] theorem countSync_cntCsum : (countSync s).cntCsum = s.cntCsum := rfl
@[simp] theorem countSync_cntOk : (countSync s).cntOk = s.cntOk := rfl
@[simp] theorem countSync_cntUndef : (countSync s).cntUndef = s.cntUndef := rfl
@[simp] theorem countSync_node : (countSync s).node = s.node := rfl
@[simp] theorem countSync_net : (countSync s).net = s.net := rfl
@[simp] theorem countSync_stor : (countSync s).stor = s.stor := rfl

@[simp] theorem countCsum_params : (countCsum s).params = s.params := rfl
@[simp] theorem countCsum_cfg : (countCsum s).cfg = s.cfg := rfl
@[simp] theorem countCsum_stim : (countCsum s).stim = s.stim := rfl
@[simp] theorem countCsum_mode : (countCsum s).mode = s.mode := rfl
@[simp] theorem countCsum_haltCause : (countCsum s).haltCause = s.haltCause := rfl
@[simp] theorem countCsum_decSt : (countCsum s).decSt = s.decSt := rfl
@[simp] theorem countCsum_ctrlLatch : (countCsum s).ctrlLatch = s.ctrlLatch := rfl
@[simp] theorem countCsum_nodeSt : (countCsum s).nodeSt = s.nodeSt := rfl
@[simp] theorem countCsum_storSt : (countCsum s).storSt = s.storSt := rfl
@[simp] theorem countCsum_netCell : (countCsum s).netCell = s.netCell := rfl
@[simp] theorem countCsum_cntSync : (countCsum s).cntSync = s.cntSync := rfl
@[simp] theorem countCsum_cntCsum : (countCsum s).cntCsum = bump s.params s.cntCsum := rfl
@[simp] theorem countCsum_cntOk : (countCsum s).cntOk = s.cntOk := rfl
@[simp] theorem countCsum_cntUndef : (countCsum s).cntUndef = s.cntUndef := rfl
@[simp] theorem countCsum_node : (countCsum s).node = s.node := rfl
@[simp] theorem countCsum_net : (countCsum s).net = s.net := rfl
@[simp] theorem countCsum_stor : (countCsum s).stor = s.stor := rfl

@[simp] theorem countOk_params : (countOk s).params = s.params := rfl
@[simp] theorem countOk_cfg : (countOk s).cfg = s.cfg := rfl
@[simp] theorem countOk_stim : (countOk s).stim = s.stim := rfl
@[simp] theorem countOk_mode : (countOk s).mode = s.mode := rfl
@[simp] theorem countOk_haltCause : (countOk s).haltCause = s.haltCause := rfl
@[simp] theorem countOk_decSt : (countOk s).decSt = s.decSt := rfl
@[simp] theorem countOk_ctrlLatch : (countOk s).ctrlLatch = s.ctrlLatch := rfl
@[simp] theorem countOk_nodeSt : (countOk s).nodeSt = s.nodeSt := rfl
@[simp] theorem countOk_storSt : (countOk s).storSt = s.storSt := rfl
@[simp] theorem countOk_netCell : (countOk s).netCell = s.netCell := rfl
@[simp] theorem countOk_cntSync : (countOk s).cntSync = s.cntSync := rfl
@[simp] theorem countOk_cntCsum : (countOk s).cntCsum = s.cntCsum := rfl
@[simp] theorem countOk_cntOk : (countOk s).cntOk = bump s.params s.cntOk := rfl
@[simp] theorem countOk_cntUndef : (countOk s).cntUndef = s.cntUndef := rfl
@[simp] theorem countOk_node : (countOk s).node = s.node := rfl
@[simp] theorem countOk_net : (countOk s).net = s.net := rfl
@[simp] theorem countOk_stor : (countOk s).stor = s.stor := rfl

@[simp] theorem countUndef_params : (countUndef s).params = s.params := rfl
@[simp] theorem countUndef_cfg : (countUndef s).cfg = s.cfg := rfl
@[simp] theorem countUndef_stim : (countUndef s).stim = s.stim := rfl
@[simp] theorem countUndef_mode : (countUndef s).mode = s.mode := rfl
@[simp] theorem countUndef_haltCause : (countUndef s).haltCause = s.haltCause := rfl
@[simp] theorem countUndef_decSt : (countUndef s).decSt = s.decSt := rfl
@[simp] theorem countUndef_ctrlLatch : (countUndef s).ctrlLatch = s.ctrlLatch := rfl
@[simp] theorem countUndef_nodeSt : (countUndef s).nodeSt = s.nodeSt := rfl
@[simp] theorem countUndef_storSt : (countUndef s).storSt = s.storSt := rfl
@[simp] theorem countUndef_netCell : (countUndef s).netCell = s.netCell := rfl
@[simp] theorem countUndef_cntSync : (countUndef s).cntSync = s.cntSync := rfl
@[simp] theorem countUndef_cntCsum : (countUndef s).cntCsum = s.cntCsum := rfl
@[simp] theorem countUndef_cntOk : (countUndef s).cntOk = s.cntOk := rfl
@[simp] theorem countUndef_cntUndef : (countUndef s).cntUndef = bump s.params s.cntUndef := rfl
@[simp] theorem countUndef_node : (countUndef s).node = s.node := rfl
@[simp] theorem countUndef_net : (countUndef s).net = s.net := rfl
@[simp] theorem countUndef_stor : (countUndef s).stor = s.stor := rfl

@[simp] theorem raiseHalt_params (h : HaltCause) : (raiseHalt h s).params = s.params := rfl
@[simp] theorem raiseHalt_cfg (h : HaltCause) : (raiseHalt h s).cfg = s.cfg := rfl
@[simp] theorem raiseHalt_stim (h : HaltCause) : (raiseHalt h s).stim = s.stim := rfl
@[simp] theorem raiseHalt_mode (h : HaltCause) : (raiseHalt h s).mode = .halt := rfl
@[simp] theorem raiseHalt_haltCause (h : HaltCause) : (raiseHalt h s).haltCause = h := rfl
@[simp] theorem raiseHalt_decSt (h : HaltCause) : (raiseHalt h s).decSt = s.decSt := rfl
@[simp] theorem raiseHalt_ctrlLatch (h : HaltCause) : (raiseHalt h s).ctrlLatch = s.ctrlLatch := rfl
@[simp] theorem raiseHalt_nodeSt (h : HaltCause) : (raiseHalt h s).nodeSt = s.nodeSt := rfl
@[simp] theorem raiseHalt_storSt (h : HaltCause) : (raiseHalt h s).storSt = s.storSt := rfl
@[simp] theorem raiseHalt_netCell (h : HaltCause) : (raiseHalt h s).netCell = s.netCell := rfl
@[simp] theorem raiseHalt_cntSync (h : HaltCause) : (raiseHalt h s).cntSync = s.cntSync := rfl
@[simp] theorem raiseHalt_cntCsum (h : HaltCause) : (raiseHalt h s).cntCsum = s.cntCsum := rfl
@[simp] theorem raiseHalt_cntOk (h : HaltCause) : (raiseHalt h s).cntOk = s.cntOk := rfl
@[simp] theorem raiseHalt_cntUndef (h : HaltCause) : (raiseHalt h s).cntUndef = s.cntUndef := rfl
@[simp] theorem raiseHalt_node (h : HaltCause) : (raiseHalt h s).node = s.node := rfl
@[simp] theorem raiseHalt_net (h : HaltCause) : (raiseHalt h s).net = s.net := rfl
@[simp] theorem raiseHalt_stor (h : HaltCause) : (raiseHalt h s).stor = s.stor := rfl

@[simp] theorem latchControl_params (b : Byte) : (latchControl b s).params = s.params := rfl
@[simp] theorem latchControl_cfg (b : Byte) : (latchControl b s).cfg = s.cfg := rfl
@[simp] theorem latchControl_stim (b : Byte) : (latchControl b s).stim = s.stim := rfl
@[simp] theorem latchControl_mode (b : Byte) : (latchControl b s).mode = s.mode := rfl
@[simp] theorem latchControl_haltCause (b : Byte) : (latchControl b s).haltCause = s.haltCause := rfl
@[simp] theorem latchControl_decSt (b : Byte) : (latchControl b s).decSt = .csum := rfl
@[simp] theorem latchControl_ctrlLatch (b : Byte) : (latchControl b s).ctrlLatch = b := rfl
@[simp] theorem latchControl_nodeSt (b : Byte) : (latchControl b s).nodeSt = s.nodeSt := rfl
@[simp] theorem latchControl_storSt (b : Byte) : (latchControl b s).storSt = s.storSt := rfl
@[simp] theorem latchControl_netCell (b : Byte) : (latchControl b s).netCell = s.netCell := rfl
@[simp] theorem latchControl_cntSync (b : Byte) : (latchControl b s).cntSync = s.cntSync := rfl
@[simp] theorem latchControl_cntCsum (b : Byte) : (latchControl b s).cntCsum = s.cntCsum := rfl
@[simp] theorem latchControl_cntOk (b : Byte) : (latchControl b s).cntOk = s.cntOk := rfl
@[simp] theorem latchControl_cntUndef (b : Byte) : (latchControl b s).cntUndef = s.cntUndef := rfl
@[simp] theorem latchControl_node (b : Byte) : (latchControl b s).node = s.node := rfl
@[simp] theorem latchControl_net (b : Byte) : (latchControl b s).net = s.net := rfl
@[simp] theorem latchControl_stor (b : Byte) : (latchControl b s).stor = s.stor := rfl

@[simp] theorem takeInput_params : (takeInput s).params = s.params := rfl
@[simp] theorem takeInput_cfg : (takeInput s).cfg = s.cfg := rfl
@[simp] theorem takeInput_stim : (takeInput s).stim = s.stim.tail := rfl
@[simp] theorem takeInput_mode : (takeInput s).mode = s.mode := rfl
@[simp] theorem takeInput_haltCause : (takeInput s).haltCause = s.haltCause := rfl
@[simp] theorem takeInput_decSt : (takeInput s).decSt = s.decSt := rfl
@[simp] theorem takeInput_ctrlLatch : (takeInput s).ctrlLatch = s.ctrlLatch := rfl
@[simp] theorem takeInput_nodeSt : (takeInput s).nodeSt = s.nodeSt := rfl
@[simp] theorem takeInput_storSt : (takeInput s).storSt = s.storSt := rfl
@[simp] theorem takeInput_netCell : (takeInput s).netCell = s.netCell := rfl
@[simp] theorem takeInput_cntSync : (takeInput s).cntSync = s.cntSync := rfl
@[simp] theorem takeInput_cntCsum : (takeInput s).cntCsum = s.cntCsum := rfl
@[simp] theorem takeInput_cntOk : (takeInput s).cntOk = s.cntOk := rfl
@[simp] theorem takeInput_cntUndef : (takeInput s).cntUndef = s.cntUndef := rfl
@[simp] theorem takeInput_node : (takeInput s).node = s.node := rfl
@[simp] theorem takeInput_net : (takeInput s).net = s.net := rfl
@[simp] theorem takeInput_stor : (takeInput s).stor = s.stor := rfl

@[simp] theorem resetRegs_params : (resetRegs s).params = s.params := rfl
@[simp] theorem resetRegs_cfg : (resetRegs s).cfg = s.cfg := rfl
@[simp] theorem resetRegs_stim : (resetRegs s).stim = s.stim := rfl
@[simp] theorem resetRegs_mode : (resetRegs s).mode = .check := rfl
@[simp] theorem resetRegs_haltCause : (resetRegs s).haltCause = .none := rfl
@[simp] theorem resetRegs_decSt : (resetRegs s).decSt = .hunt := rfl
@[simp] theorem resetRegs_ctrlLatch : (resetRegs s).ctrlLatch = 0x00#8 := rfl
@[simp] theorem resetRegs_nodeSt : (resetRegs s).nodeSt = .normal := rfl
@[simp] theorem resetRegs_storSt : (resetRegs s).storSt = .normal := rfl
@[simp] theorem resetRegs_netCell : (resetRegs s).netCell = NetCell.normal := rfl
@[simp] theorem resetRegs_cntSync : (resetRegs s).cntSync = 0 := rfl
@[simp] theorem resetRegs_cntCsum : (resetRegs s).cntCsum = 0 := rfl
@[simp] theorem resetRegs_cntOk : (resetRegs s).cntOk = 0 := rfl
@[simp] theorem resetRegs_cntUndef : (resetRegs s).cntUndef = 0 := rfl
@[simp] theorem resetRegs_node : (resetRegs s).node = Anim.atReset .normal := rfl
@[simp] theorem resetRegs_net : (resetRegs s).net = Anim.atReset NetCell.normal := rfl
@[simp] theorem resetRegs_stor : (resetRegs s).stor = Anim.atReset .normal := rfl

end

section
variable {σ : Type} (i : Nat) (st : Stage) (a : Anim σ)

@[simp] theorem startStage_ph : (startStage i st a).ph = .wait := rfl
@[simp] theorem startStage_cur : (startStage i st a).cur = a.cur := rfl
@[simp] theorem startStage_stg : (startStage i st a).stg = BitVec.ofNat 4 i := rfl
@[simp] theorem startStage_tmr : (startStage i st a).tmr = st.wait := rfl
@[simp] theorem startStage_lit : (startStage i st a).lit = runActions st.actions a.lit := rfl

end

section
variable (b : Byte)

@[simp] theorem byteCycle_rst : (byteCycle b).rst = false := rfl
@[simp] theorem byteCycle_rx : (byteCycle b).rx = some b := rfl
@[simp] theorem byteCycle_ioErr : (byteCycle b).ioErr = false := rfl
@[simp] theorem byteCycle_shutdown : (byteCycle b).shutdown = false := rfl
@[simp] theorem byteCycle_tick : (byteCycle b).tick = false := rfl
@[simp] theorem byteCycle_cfg : (byteCycle b).cfg = none := rfl
@[simp] theorem idle_rst : CycleIn.idle.rst = false := rfl
@[simp] theorem idle_rx : CycleIn.idle.rx = none := rfl
@[simp] theorem idle_ioErr : CycleIn.idle.ioErr = false := rfl
@[simp] theorem idle_shutdown : CycleIn.idle.shutdown = false := rfl
@[simp] theorem idle_tick : CycleIn.idle.tick = false := rfl
@[simp] theorem idle_cfg : CycleIn.idle.cfg = none := rfl

end

end Sys2Proof.Machine
end

