-- ==== Sys2Proof/Laws/Animator.lean ====
section
/-! SUPPORT. What an animator's step can do, said once (42_animator_engine.md R122 to R124). -/

namespace Sys2Proof.Machine

section
variable {σ : Type} {prog : σ → Option Program} {code3 : Refusal} {v : σ} {a b : Anim σ}

/-- A sample starts stage 0 of the program of the value it read (42_animator_engine.md R122). -/
theorem sampleAnim_eq_ok :
    sampleAnim prog code3 v a = .ok b ↔ ∃ P, prog v = some P ∧ b = startStage 0 P.first { a with cur := v } := by
  unfold sampleAnim
  cases prog v <;> simp [eq_comm]

/-- The end of a wait starts the next stage, or samples after the last one (42_animator_engine.md R124). -/
theorem endStage_eq_ok :
    endStage prog code3 v a = .ok b ↔
      ∃ P, prog a.cur = some P ∧
        ((∃ st, stageAt P (a.stg.toNat + 1) = some st ∧ b = startStage (a.stg.toNat + 1) st a) ∨
          (stageAt P (a.stg.toNat + 1) = none ∧ sampleAnim prog code3 v a = .ok b)) := by
  unfold endStage
  cases hP : prog a.cur with
  | none => simp
  | some P => cases hst : stageAt P (a.stg.toNat + 1) <;> simp [hst, eq_comm]

/-- The four things an animator's step can do (42_animator_engine.md R124). -/
theorem stepAnim_cases {tick : Bool} (h : stepAnim prog code3 v tick a = .ok b) :
    (a.ph = .sample ∧ sampleAnim prog code3 v a = .ok b) ∨
    (a.ph = .wait ∧ tick = false ∧ b = a) ∨
    (a.ph = .wait ∧ tick = true ∧ 1 < a.tmr ∧ b = { a with tmr := a.tmr - 1 }) ∨
    (a.ph = .wait ∧ tick = true ∧ a.tmr = 1 ∧ endStage prog code3 v a = .ok b) := by
  unfold stepAnim at h
  cases hp : a.ph with
  | sample => exact .inl ⟨rfl, by simpa [hp] using h⟩
  | wait =>
    simp only [hp] at h
    split at h
    · next ht =>
      split at h
      · cases h
      · split at h
        · next h1 => exact .inr (.inr (.inl ⟨rfl, ht, h1, by simpa [eq_comm] using h⟩))
        · exact .inr (.inr (.inr ⟨rfl, ht, by omega, h⟩))
    · next ht => exact .inr (.inl ⟨rfl, by simpa using ht, by simpa [eq_comm] using h⟩)

/-- A tick on a wait of more than one tick only counts it. -/
theorem stepAnim_count (hp : a.ph = .wait) (ht : 1 < a.tmr) :
    stepAnim prog code3 v true a = .ok { a with tmr := a.tmr - 1 } := by
  have h0 : ¬ a.tmr = 0 := by omega
  simp [stepAnim, hp, ht, h0]

/-- The last tick of a wait ends the stage. -/
theorem stepAnim_last (hp : a.ph = .wait) (ht : a.tmr = 1) :
    stepAnim prog code3 v true a = endStage prog code3 v a := by
  simp [stepAnim, hp, ht]

/-- Without a tick a waiting animator stands still. -/
theorem stepAnim_noTick (hp : a.ph = .wait) : stepAnim prog code3 v false a = .ok a := by
  simp [stepAnim, hp]

/-- The first step after reset samples, with or without a tick (42_animator_engine.md R123). -/
theorem stepAnim_first {tick : Bool} (hp : a.ph = .sample) :
    stepAnim prog code3 v tick a = sampleAnim prog code3 v a := by
  simp [stepAnim, hp]

/-- Both kinds of sample are a sample of the cell (42_animator_engine.md R123). -/
theorem stepAnim_of_samplesNow {tick : Bool} (h : SamplesNow prog tick a) :
    stepAnim prog code3 v tick a = sampleAnim prog code3 v a := by
  rcases h with hp | ⟨hp, rfl, ht, P, hP, hst⟩
  · exact stepAnim_first hp
  · rw [stepAnim_last hp ht]
    simp only [endStage, hP, hst]

@[simp] theorem ticksIn_nil : ticksIn ([] : List (Bool × σ)) = 0 := rfl

@[simp] theorem ticksIn_tick (w : σ) (l : List (Bool × σ)) : ticksIn ((true, w) :: l) = ticksIn l + 1 := by
  simp [ticksIn]

@[simp] theorem ticksIn_noTick (w : σ) (l : List (Bool × σ)) : ticksIn ((false, w) :: l) = ticksIn l := by
  simp [ticksIn]

@[simp] theorem runAnim_nil : runAnim prog code3 [] a = .ok a := rfl

/-- Cycles go on from the registers that the first of them leaves. -/
theorem runAnim_of_step {tick : Bool} {l : List (Bool × σ)} (h : stepAnim prog code3 v tick a = .ok b) :
    runAnim prog code3 ((tick, v) :: l) a = runAnim prog code3 l b := by
  simp only [runAnim, h]

/-- A single cycle is the animator's step. -/
theorem runAnim_one {tick : Bool} : runAnim prog code3 [(tick, v)] a = stepAnim prog code3 v tick a := by
  unfold runAnim
  cases stepAnim prog code3 v tick a <;> rfl

/-- A cycle without a tick does nothing to a waiting animator. -/
theorem runAnim_noTick {l : List (Bool × σ)} (hp : a.ph = .wait) :
    runAnim prog code3 ((false, v) :: l) a = runAnim prog code3 l a :=
  runAnim_of_step (stepAnim_noTick hp)

/-- Cycles in two parts. -/
theorem runAnim_append {l m : List (Bool × σ)} (h : runAnim prog code3 l a = .ok b) :
    runAnim prog code3 (l ++ m) a = runAnim prog code3 m b := by
  induction l generalizing a with
  | nil => cases h; rfl
  | cons c l ih =>
    obtain ⟨tick, w⟩ := c
    simp only [List.cons_append, runAnim] at h ⊢
    split at h
    · exact ih h
    · cases h

end

end Sys2Proof.Machine
end

