-- ==== Sys2Proof/Laws/Decode.lean ====
section
/-! SUPPORT. What the segment decoder answers for a control byte (30_encoding.md R63 to R65). -/

namespace Sys2Proof

/-- The four node values and their rows. -/
theorem nodeRow_cases : ∀ c : Byte,
    (c &&& 0xC0#8 = 0x00#8 ∧ nodeRow c = .nodeNormal) ∨ (c &&& 0xC0#8 = 0x40#8 ∧ nodeRow c = .nodeSync) ∨
    (c &&& 0xC0#8 = 0xC0#8 ∧ nodeRow c = .nodeError) ∨ (c &&& 0xC0#8 = 0x80#8 ∧ nodeRow c = .nodeUndef) := by
  decide

/-- The four storage values and their rows. -/
theorem storageRow_cases : ∀ c : Byte,
    (c &&& 0x30#8 = 0x00#8 ∧ storageRow c = .storNormal) ∨ (c &&& 0x30#8 = 0x10#8 ∧ storageRow c = .storRecovering) ∨
    (c &&& 0x30#8 = 0x30#8 ∧ storageRow c = .storError) ∨ (c &&& 0x30#8 = 0x20#8 ∧ storageRow c = .storUndef) := by
  decide

/-- The defined network values and their rows; every other value is one of the undefined rows. -/
theorem networkRow_cases : ∀ c : Byte,
    (c &&& 0x0F#8 = 0x00#8 ∧ networkRow c = .netNormal) ∨ (c &&& 0x0F#8 = 0x0F#8 ∧ networkRow c = .netRecovering) ∨
    (c &&& 0x0F#8 = 0x01#8 ∧ networkRow c = .netErrorP1) ∨ (c &&& 0x0F#8 = 0x02#8 ∧ networkRow c = .netErrorP2) ∨
    (c &&& 0x0F#8 = 0x04#8 ∧ networkRow c = .netErrorP3) ∨ (c &&& 0x0F#8 = 0x08#8 ∧ networkRow c = .netErrorP4) ∨
    (c &&& 0x0F#8 ∉ [0x00#8, 0x0F#8, 0x01#8, 0x02#8, 0x04#8, 0x08#8] ∧
      networkRow c ∈ [.netUndef3, .netUndef5, .netUndef6, .netUndef7, .netUndef9, .netUndef10, .netUndef11,
        .netUndef12, .netUndef13, .netUndef14]) := by
  decide

end Sys2Proof
end

