-- ==== Sys2Proof/Laws/Ops.lean ====
section
/-! SUPPORT. What the shared operations can do: sequencing, the segment rows and Apply. -/

namespace Sys2Proof.Machine

@[simp] theorem andThen_next (s : State) (f : State → Result) : andThen (.next s) f = f s := rfl

@[simp] theorem andThen_refused (x : Refusal) (f : State → Result) : andThen (.refused x) f = .refused x := rfl

/-- A sequence answers a next state only through a next state of its first part. -/
theorem andThen_eq_next {r : Result} {f : State → Result} {t : State} :
    andThen r f = .next t ↔ ∃ u, r = .next u ∧ f u = .next t := by
  cases r <;> simp [andThen]

/-- An animator's step is put in place, or its refusal is the cycle's. -/
theorem putAnim_eq_next {σ : Type} {r : Except Refusal (Anim σ)} {put : Anim σ → State} {t : State} :
    putAnim r put = .next t ↔ ∃ a, r = .ok a ∧ t = put a := by
  cases r <;> simp [putAnim, eq_comm]

@[simp] theorem bump_lt (p : Params) (n : Nat) : bump p n < 2 ^ p.cntWidth :=
  Nat.mod_lt _ (Nat.two_pow_pos _)

/-- The row of each segment, run by Apply: it writes the value of its table, or counts (41_segment_mapping.md R101 to
R115). -/
theorem runSegment_nodeRow (c : Byte) (s : State) :
    runSegment (nodeRow c) s =
      .next (match nodeValue c with | some v => writeNode v s | none => countUndef s) := by
  rcases nodeRow_cases c with h | h | h | h <;> rw [h.2] <;> simp [nodeValue, h.1] <;> rfl

theorem runSegment_storageRow (c : Byte) (s : State) :
    runSegment (storageRow c) s =
      .next (match storageValue c with | some v => writeStor v s | none => countUndef s) := by
  rcases storageRow_cases c with h | h | h | h <;> rw [h.2] <;> simp [storageValue, h.1] <;> rfl

theorem runSegment_networkRow (c : Byte) (s : State) :
    runSegment (networkRow c) s =
      .next (match networkValue c with | some v => writeNet v.st v.port s | none => countUndef s) := by
  rcases networkRow_cases c with h | h | h | h | h | h | h
  iterate 6 rw [h.2]; simp [networkValue, h.1]; rfl
  have h1 := h.1
  simp only [List.mem_cons, List.not_mem_nil, or_false, not_or] at h1
  have hv : networkValue c = none := by simp [networkValue, h1]
  rw [hv]
  have := h.2
  simp only [List.mem_cons, List.not_mem_nil, or_false] at this
  rcases this with h | h | h | h | h | h | h | h | h | h <;> rw [h] <;> rfl

/-- Apply's rows are the instructions the segments decode to. -/
theorem runSegment_eq_exec (i : Instr) (h : formatOf i = .node ∨ formatOf i = .storage ∨ formatOf i = .network)
    (s : State) : runSegment i s = exec i s := by
  cases i <;> first | rfl | simp [formatOf] at h

end Sys2Proof.Machine
end

