-- ==== Sys2Proof/Laws/Decoder.lean ====
section
/-! SUPPORT. What the decoder's part of a cycle can do, and that it neither reads nor writes anything but its own
registers (10_state.md R35). -/

namespace Sys2Proof.Machine

/-- A change of the next state of an outcome. -/
def mapNext (f : State → State) (r : Result) : Result := andThen r (fun s => .next (f s))

@[simp] theorem mapNext_next (f : State → State) (s : State) : mapNext f (.next s) = .next (f s) := rfl

/-- A FRAME is always read in CSUM: the header bytes are right by construction (30_encoding.md R72). -/
theorem fetch_csum {s : State} (b : Byte) (h : s.decSt = .csum) : fetch b s = some (.frame s.ctrlLatch b) := by
  unfold fetch
  rw [h]
  rfl

theorem fetch_ctrl {s : State} (b : Byte) (h : s.decSt = .ctrl) : fetch b s = none := by
  unfold fetch
  rw [h]

theorem fetch_hunt {s : State} (b : Byte) (h : s.decSt = .hunt) :
    fetch b s = if b = 0x55#8 then some .hdr0 else none := by
  unfold fetch
  rw [h]
  by_cases hb : b = 0x55#8 <;> simp [decode, header0, hb]

theorem fetch_h1 {s : State} (b : Byte) (h : s.decSt = .h1) :
    fetch b s = if b = 0xAA#8 then some .hdr1 else none := by
  unfold fetch
  rw [h]
  by_cases hb : b = 0xAA#8 <;> simp [decode, header1, hb]

/-- What Apply leaves: each defined segment written, each undefined one counted (41_segment_mapping.md R100). -/
theorem applyControl_eq (c : Byte) (s : State) : ∃ t, applyControl c s = .next t ∧
    t.params = s.params ∧ t.cfg = s.cfg ∧ t.stim = s.stim ∧ t.mode = s.mode ∧ t.haltCause = s.haltCause ∧
    t.decSt = s.decSt ∧ t.ctrlLatch = s.ctrlLatch ∧ t.cntSync = s.cntSync ∧ t.cntCsum = s.cntCsum ∧
    t.cntOk = s.cntOk ∧ t.node = s.node ∧ t.net = s.net ∧ t.stor = s.stor ∧
    t.nodeSt = (nodeValue c).getD s.nodeSt ∧ t.storSt = (storageValue c).getD s.storSt ∧
    t.netCell = (networkValue c).getD s.netCell ∧
    (s.cntUndef < 2 ^ s.params.cntWidth → t.cntUndef = (s.cntUndef + undefCount c) % 2 ^ s.params.cntWidth) := by
  unfold applyControl undefCount
  rw [runSegment_nodeRow, andThen_next, runSegment_storageRow, andThen_next, runSegment_networkRow]
  cases nodeValue c <;> cases storageValue c <;> cases networkValue c <;> simp [bump, Nat.add_assoc]
  exact fun h => (Nat.mod_eq_of_lt h).symm

/-- The decoder's operations as one table (40_frame_decoder.md R89); an accepted frame's writes are
`applyControl_eq`'s. -/
theorem decodeByte_cases (b : Byte) (s : State) :
    (s.decSt = .hunt ∧ b = 0x55#8 ∧ decodeByte b s = .next (setDecSt .h1 s)) ∨
    (s.decSt = .hunt ∧ b ≠ 0x55#8 ∧ decodeByte b s = .next (huntDiscard s)) ∨
    (s.decSt = .h1 ∧ b = 0xAA#8 ∧ decodeByte b s = .next (setDecSt .ctrl s)) ∨
    (s.decSt = .h1 ∧ b ≠ 0xAA#8 ∧ decodeByte b s = .next (h1Mismatch b s)) ∨
    (s.decSt = .ctrl ∧ decodeByte b s = .next (latchControl b s)) ∨
    (s.decSt = .csum ∧ b = expectedCrc s.ctrlLatch ∧ ∃ t, applyControl s.ctrlLatch s = .next t ∧
      decodeByte b s = .next (setDecSt .hunt (countOk t))) ∨
    (s.decSt = .csum ∧ b ≠ expectedCrc s.ctrlLatch ∧ decodeByte b s = .next (csumReject s)) := by
  unfold decodeByte withoutInstr
  cases h : s.decSt with
  | hunt =>
    by_cases hb : b = 0x55#8
    · rw [fetch_hunt b h, if_pos hb]
      exact .inl ⟨rfl, hb, rfl⟩
    · rw [fetch_hunt b h, if_neg hb]
      exact .inr (.inl ⟨rfl, hb, rfl⟩)
  | h1 =>
    by_cases hb : b = 0xAA#8
    · rw [fetch_h1 b h, if_pos hb]
      exact .inr (.inr (.inl ⟨rfl, hb, rfl⟩))
    · rw [fetch_h1 b h, if_neg hb]
      exact .inr (.inr (.inr (.inl ⟨rfl, hb, rfl⟩)))
  | ctrl =>
    rw [fetch_ctrl b h]
    exact .inr (.inr (.inr (.inr (.inl ⟨rfl, rfl⟩))))
  | csum =>
    obtain ⟨t, ht, -⟩ := applyControl_eq s.ctrlLatch s
    by_cases hb : b = expectedCrc s.ctrlLatch
    · rw [fetch_csum b h]
      refine .inr (.inr (.inr (.inr (.inr (.inl ⟨rfl, hb, t, ht, ?_⟩)))))
      simp only [exec, execFrame, if_pos hb, csumAccept, ht, andThen_next]
    · rw [fetch_csum b h]
      refine .inr (.inr (.inr (.inr (.inr (.inr ⟨rfl, hb, ?_⟩)))))
      simp only [exec, execFrame, if_neg hb]

/-- A change of what the decoder does not read: the mode controller's registers, the animators and the inputs. -/
def withOthers (m : Mode) (h : HaltCause) (l : List CycleIn) (c : Cfg) (a : Anim NodeSt) (n : Anim NetCell)
    (r : Anim StorSt) (s : State) : State :=
  { s with mode := m, haltCause := h, stim := l, cfg := c, node := a, net := n, stor := r }

/-- The decoder's part of a cycle neither reads nor writes what `withOthers` changes (10_state.md R35). -/
theorem decoderCycle_withOthers (rx : Option Byte) (m : Mode) (h : HaltCause) (l : List CycleIn) (c : Cfg)
    (a : Anim NodeSt) (n : Anim NetCell) (r : Anim StorSt) (s : State) :
    decoderCycle rx (withOthers m h l c a n r s) = mapNext (withOthers m h l c a n r) (decoderCycle rx s) := by
  cases rx with
  | none => rfl
  | some b =>
    have hf : fetch b (withOthers m h l c a n r s) = fetch b s := rfl
    show decodeByte b _ = mapNext _ (decodeByte b s)
    unfold decodeByte
    rw [hf]
    cases hi : fetch b s with
    | none =>
      show Host.Outcome.next _ = Host.Outcome.next _
      unfold withoutInstr
      show Host.Outcome.next (match s.decSt with
        | .hunt => _ | .h1 => _ | .ctrl => _ | .csum => _) = _
      cases s.decSt with
      | hunt => rfl
      | h1 =>
        by_cases hq : s.params.reexamineH1 = true ∧ b = 0x55#8
        · have hq' : (withOthers m h l c a n r s).params.reexamineH1 = true ∧ b = 0x55#8 := hq
          simp only [h1Mismatch, if_pos hq, if_pos hq']
          rfl
        · have hq' : ¬ ((withOthers m h l c a n r s).params.reexamineH1 = true ∧ b = 0x55#8) := hq
          simp only [h1Mismatch, if_neg hq, if_neg hq']
          rfl
      | ctrl => rfl
      | csum => rfl
    | some i =>
      cases i <;> try rfl
      next cb k =>
        show execFrame cb k _ = mapNext _ (execFrame cb k s)
        unfold execFrame
        split
        · simp only [csumAccept, applyControl, runSegment_nodeRow, andThen_next, runSegment_storageRow,
            runSegment_networkRow]
          cases nodeValue cb <;> cases storageValue cb <;> cases networkValue cb <;> rfl
        · rfl

end Sys2Proof.Machine
end

