-- ==== Sys2Proof/Laws/Durations.lean ====
section
/-! SUPPORT. The timer's width is the smallest that holds every wait (42_animator_engine.md R128). -/

namespace Sys2Proof.Machine

theorem widthWithin_le_iff {fuel n w : Nat} (h : n ≤ fuel) : widthWithin fuel n ≤ w ↔ n < 2 ^ w := by
  induction fuel generalizing n w with
  | zero => simp [widthWithin, Nat.le_zero.1 h]
  | succ fuel ih =>
    unfold widthWithin
    split
    · next h0 => simp [h0]
    · next h0 =>
      cases w with
      | zero => simp [h0]
      | succ w => rw [Nat.add_le_add_iff_right, ih (by omega), Nat.pow_succ, Nat.div_lt_iff_lt_mul (by decide)]

/-- `widthOf n` is the smallest width that holds `n`. -/
theorem widthOf_le_iff {n w : Nat} : widthOf n ≤ w ↔ n < 2 ^ w := widthWithin_le_iff (Nat.le_refl n)

/-- `TMR_WIDTH` is the smallest width that holds the six waits of 42_animator_engine.md R128. -/
theorem tmrWidth_le_iff {p : Params} {w : Nat} :
    tmrWidth p ≤ w ↔
      tSlow p < 2 ^ w ∧ tFast p < 2 ^ w ∧ p.sizedFor.node < 2 ^ w ∧ p.sizedFor.net < 2 ^ w ∧
        p.sizedFor.stor < 2 ^ w ∧ p.tBadPort < 2 ^ w := by
  simp only [tmrWidth, longestWait, widthOf_le_iff, max_lt_iff, and_assoc]

/-- The waits that are fixed when the block is built fit the timer. -/
theorem fixedWaits_fit (p : Params) :
    tSlow p < 2 ^ tmrWidth p ∧ tFast p < 2 ^ tmrWidth p ∧ p.tBadPort < 2 ^ tmrWidth p :=
  have h := tmrWidth_le_iff.1 (Nat.le_refl (tmrWidth p))
  ⟨h.1, h.2.1, h.2.2.2.2.2⟩

/-- A configuration that has the intervals the timers are sized for passes the check of the intervals, if they are not
0 (46_orchestrator.md R170 item 3). -/
theorem intervalOk_of_sizedFor (p : Params) {t : Nat} (h1 : 1 ≤ t)
    (h : t = p.sizedFor.node ∨ t = p.sizedFor.net ∨ t = p.sizedFor.stor) : intervalOk p t = true := by
  obtain ⟨-, -, hn, hw, hs, -⟩ := tmrWidth_le_iff.1 (Nat.le_refl (tmrWidth p))
  have ht : t < 2 ^ tmrWidth p := by rcases h with rfl | rfl | rfl <;> assumption
  simp only [intervalOk, decide_eq_true_eq]
  omega

/-- The intervals of a checked configuration fit the timer. -/
theorem intervals_fit {p : Params} {c : Cfg} (h : cfgOk p c = true) :
    c.tIntNode < 2 ^ tmrWidth p ∧ c.tIntNet < 2 ^ tmrWidth p ∧ c.tIntStor < 2 ^ tmrWidth p := by
  simp only [cfgOk, intervalOk, Bool.and_eq_true, decide_eq_true_eq] at h
  omega

/-- The timer holds every wait of the node programs, the configuration being checked (42_animator_engine.md R128). -/
theorem nodeProgram_waits_fit {p : Params} {c : Cfg} (h : cfgOk p c = true) {v : NodeSt} {P : Program}
    (hP : nodeProgram p c v = some P) {st : Stage} (hs : st ∈ stagesOf P) : st.wait < 2 ^ tmrWidth p := by
  have hf := fixedWaits_fit p
  have hi := intervals_fit h
  cases v <;> cases hP <;>
    simp only [stagesOf, nodeNormalProgram, nodeErrorProgram, nodeSyncProgram, List.mem_cons, List.not_mem_nil,
      or_false] at hs <;> rcases hs with rfl | rfl <;> simp only [hf, hi]

/-- The timer holds every wait of the storage programs. -/
theorem storProgram_waits_fit {p : Params} {c : Cfg} (h : cfgOk p c = true) {v : StorSt} {P : Program}
    (hP : storProgram p c v = some P) {st : Stage} (hs : st ∈ stagesOf P) : st.wait < 2 ^ tmrWidth p := by
  have hf := fixedWaits_fit p
  have hi := intervals_fit h
  cases v <;> cases hP <;>
    simp only [stagesOf, storNormalProgram, storErrorProgram, storRecoveringProgram, List.mem_cons, List.not_mem_nil,
      or_false] at hs <;> rcases hs with rfl | rfl <;> simp only [hf, hi]

/-- Every wait of the blink stages is `T_FAST` (44_network_animator.md R151). -/
theorem blinkStages_wait {p : Params} {n : Nat} {st : Stage} (hs : st ∈ blinkStages p n) : st.wait = tFast p := by
  induction n with
  | zero => cases hs
  | succ n ih =>
    cases n with
    | zero => simp only [blinkStages, List.mem_singleton] at hs; rw [hs]
    | succ n =>
      simp only [blinkStages, List.mem_cons] at hs
      rcases hs with rfl | rfl | hs
      · rfl
      · rfl
      · exact ih hs

/-- The timer holds every wait of the network programs, those of a bad port among them. -/
theorem netProgram_waits_fit {p : Params} {c : Cfg} (h : cfgOk p c = true) {v : NetCell} {P : Program}
    (hP : netProgram p c v = some P) {st : Stage} (hs : st ∈ stagesOf P) : st.wait < 2 ^ tmrWidth p := by
  have hf := fixedWaits_fit p
  have hi := intervals_fit h
  unfold netProgram at hP
  split at hP
  · cases hP
    simp only [stagesOf, netNormalProgram, List.mem_singleton] at hs
    simp only [hs, hi]
  · cases hP
    simp only [stagesOf, netRecoveringProgram, List.mem_cons, List.not_mem_nil, or_false] at hs
    rcases hs with rfl | rfl <;> simp only [hf]
  · split at hP <;> cases hP
    · simp only [stagesOf, netErrorProgram, List.mem_cons, List.mem_append, List.not_mem_nil, or_false] at hs
      rcases hs with rfl | hs | rfl
      · simp only [hf]
      · simp only [blinkStages_wait hs, hf]
      · simp only [hi]
    · simp only [stagesOf, netBadPortProgram, List.mem_singleton] at hs
      simp only [hs, hf]
  · cases hP

end Sys2Proof.Machine
end

