-- ==== Sys2Proof/Laws/PerInstr.lean ====
section
/-! SUPPORT. The family TableRow: every instruction's encoding matches its row of spec/opcode_table.json, its word under
the row's mask being the row's match, and has the row's number of bytes (30_encoding.md R73, R77). -/

namespace Sys2Proof.Laws.TableRow

/-- A row's format width in bytes, mask and match, as the table prints them. -/
def row (i : Instr) : Nat × Nat × Nat :=
  match i with
  | .hdr0 => (1, 0xFF, 0x55)
  | .hdr1 => (1, 0xFF, 0xAA)
  | .frame _ _ => (4, 0xFFFF0000, 0x55AA0000)
  | .nodeNormal => (1, 0xC0, 0x00)
  | .nodeSync => (1, 0xC0, 0x40)
  | .nodeError => (1, 0xC0, 0xC0)
  | .nodeUndef => (1, 0xC0, 0x80)
  | .storNormal => (1, 0x30, 0x00)
  | .storRecovering => (1, 0x30, 0x10)
  | .storError => (1, 0x30, 0x30)
  | .storUndef => (1, 0x30, 0x20)
  | .netNormal => (1, 0x0F, 0x00)
  | .netRecovering => (1, 0x0F, 0x0F)
  | .netErrorP1 => (1, 0x0F, 0x01)
  | .netErrorP2 => (1, 0x0F, 0x02)
  | .netErrorP3 => (1, 0x0F, 0x04)
  | .netErrorP4 => (1, 0x0F, 0x08)
  | .netUndef3 => (1, 0x0F, 0x03)
  | .netUndef5 => (1, 0x0F, 0x05)
  | .netUndef6 => (1, 0x0F, 0x06)
  | .netUndef7 => (1, 0x0F, 0x07)
  | .netUndef9 => (1, 0x0F, 0x09)
  | .netUndef10 => (1, 0x0F, 0x0A)
  | .netUndef11 => (1, 0x0F, 0x0B)
  | .netUndef12 => (1, 0x0F, 0x0C)
  | .netUndef13 => (1, 0x0F, 0x0D)
  | .netUndef14 => (1, 0x0F, 0x0E)

/-- The encoding has the row's width, and its word under the row's mask is the row's match. -/
def Statement (i : Instr) : Prop :=
  (encode i).length = (row i).1 ∧ wordOf (encode i) &&& (row i).2.1 = (row i).2.2

theorem hdr0 : Statement .hdr0 := ⟨rfl, rfl⟩
theorem hdr1 : Statement .hdr1 := ⟨rfl, rfl⟩

/-- The header bytes of a frame word are its upper half, whatever the other two bytes are. -/
theorem frame (c k : Byte) : Statement (.frame c k) := by
  refine ⟨rfl, ?_⟩
  have hc := c.isLt
  have hk := k.isLt
  have hw : wordOf (encode (.frame c k)) = 2 ^ 16 * 0x55AA + (c.toNat * 0x100 + k.toNat) := by
    show (((0 * 0x100 + 0x55) * 0x100 + 0xAA) * 0x100 + c.toNat) * 0x100 + k.toNat = _
    omega
  have hlow : (c.toNat * 0x100 + k.toNat) < 2 ^ 16 := by omega
  rw [hw]
  apply Nat.eq_of_testBit_eq
  intro i
  show Nat.testBit (_ &&& (2 ^ 16 * 0xFFFF + 0)) i = Nat.testBit (2 ^ 16 * 0x55AA + 0) i
  rw [Nat.testBit_and, Nat.testBit_two_pow_mul_add _ hlow, Nat.testBit_two_pow_mul_add _ (by decide : 0 < 2 ^ 16),
    Nat.testBit_two_pow_mul_add _ (by decide : 0 < 2 ^ 16)]
  split
  · simp
  · rw [← Nat.testBit_and]
    rfl

theorem nodeNormal : Statement .nodeNormal := ⟨rfl, rfl⟩
theorem nodeSync : Statement .nodeSync := ⟨rfl, rfl⟩
theorem nodeError : Statement .nodeError := ⟨rfl, rfl⟩
theorem nodeUndef : Statement .nodeUndef := ⟨rfl, rfl⟩
theorem storNormal : Statement .storNormal := ⟨rfl, rfl⟩
theorem storRecovering : Statement .storRecovering := ⟨rfl, rfl⟩
theorem storError : Statement .storError := ⟨rfl, rfl⟩
theorem storUndef : Statement .storUndef := ⟨rfl, rfl⟩
theorem netNormal : Statement .netNormal := ⟨rfl, rfl⟩
theorem netRecovering : Statement .netRecovering := ⟨rfl, rfl⟩
theorem netErrorP1 : Statement .netErrorP1 := ⟨rfl, rfl⟩
theorem netErrorP2 : Statement .netErrorP2 := ⟨rfl, rfl⟩
theorem netErrorP3 : Statement .netErrorP3 := ⟨rfl, rfl⟩
theorem netErrorP4 : Statement .netErrorP4 := ⟨rfl, rfl⟩
theorem netUndef3 : Statement .netUndef3 := ⟨rfl, rfl⟩
theorem netUndef5 : Statement .netUndef5 := ⟨rfl, rfl⟩
theorem netUndef6 : Statement .netUndef6 := ⟨rfl, rfl⟩
theorem netUndef7 : Statement .netUndef7 := ⟨rfl, rfl⟩
theorem netUndef9 : Statement .netUndef9 := ⟨rfl, rfl⟩
theorem netUndef10 : Statement .netUndef10 := ⟨rfl, rfl⟩
theorem netUndef11 : Statement .netUndef11 := ⟨rfl, rfl⟩
theorem netUndef12 : Statement .netUndef12 := ⟨rfl, rfl⟩
theorem netUndef13 : Statement .netUndef13 := ⟨rfl, rfl⟩
theorem netUndef14 : Statement .netUndef14 := ⟨rfl, rfl⟩

end Sys2Proof.Laws.TableRow
end

