-- ==== Sys2Proof/Laws/Step.lean ====
section
/-! SUPPORT. What a step can do, said once (60_exceptions.md R193). -/

namespace Sys2Proof.Machine

/-- The animators' part of a cycle: each stepped from its own registers and cell, nothing else changed
(42_animator_engine.md R124). -/
theorem animatorsCycle_eq_next {tick : Bool} {s t : State} :
    animatorsCycle tick s = .next t ↔
      ∃ a n r, stepNode tick s = .ok a ∧ stepNet tick s = .ok n ∧ stepStor tick s = .ok r ∧
        t = { s with node := a, net := n, stor := r } := by
  simp only [animatorsCycle, andThen_eq_next, putAnim_eq_next]
  constructor
  · rintro ⟨u, ⟨w, ⟨a, ha, rfl⟩, n, hn, rfl⟩, r, hr, rfl⟩
    exact ⟨a, n, r, ha, hn, hr, rfl⟩
  · rintro ⟨a, n, r, ha, hn, hr, rfl⟩
    exact ⟨_, ⟨_, ⟨a, ha, rfl⟩, n, hn, rfl⟩, r, hr, rfl⟩

/-- A stepping cycle: the animators' steps and then the decoder's operation. -/
theorem runCycle_eq_next {inp : CycleIn} {s t : State} :
    runCycle inp s = .next t ↔
      ∃ a n r, stepNode inp.tick s = .ok a ∧ stepNet inp.tick s = .ok n ∧ stepStor inp.tick s = .ok r ∧
        decoderCycle inp.rx { s with node := a, net := n, stor := r } = .next t := by
  simp only [runCycle, andThen_eq_next, animatorsCycle_eq_next]
  constructor
  · rintro ⟨u, ⟨a, n, r, ha, hn, hr, rfl⟩, h⟩
    exact ⟨a, n, r, ha, hn, hr, h⟩
  · rintro ⟨a, n, r, ha, hn, hr, h⟩
    exact ⟨_, ⟨a, n, r, ha, hn, hr, rfl⟩, h⟩

/-- A decoder's part of a cycle always completes. -/
theorem decoderCycle_completes (rx : Option Byte) (s : State) : ∃ t, decoderCycle rx s = .next t := by
  cases rx with
  | none => exact ⟨s, rfl⟩
  | some b =>
    show ∃ t, decodeByte b s = .next t
    rcases decodeByte_cases b s with ⟨_, _, h⟩ | ⟨_, _, h⟩ | ⟨_, _, h⟩ | ⟨_, _, h⟩ | ⟨_, h⟩ |
      ⟨_, _, _, _, h⟩ | ⟨_, _, h⟩ <;> exact ⟨_, h⟩

/-- The six things a cycle can do (60_exceptions.md R193). -/
theorem clockCycle_cases {inp : CycleIn} {s t : State} (h : clockCycle inp s = .next t) :
    (inp.rst = true ∧ t = resetRegs (takeCfg inp s)) ∨
    (inp.rst = false ∧ cfgChanges inp s = false ∧ s.mode = .check ∧ t = sysCheck s) ∨
    (inp.rst = false ∧ cfgChanges inp s = false ∧ s.mode = .run ∧ inp.ioErr = true ∧ t = raiseHalt .ioError s) ∨
    (inp.rst = false ∧ cfgChanges inp s = false ∧ s.mode = .run ∧ inp.ioErr = false ∧ inp.shutdown = true ∧
      t = raiseHalt .shutdown s) ∨
    (inp.rst = false ∧ cfgChanges inp s = false ∧ s.mode = .run ∧ inp.ioErr = false ∧ inp.shutdown = false ∧
      runCycle inp s = .next t) ∨
    (inp.rst = false ∧ cfgChanges inp s = false ∧ s.mode = .halt ∧ t = s) := by
  unfold clockCycle sysRun at h
  split at h
  · next hr => injection h with h; exact .inl ⟨hr, h.symm⟩
  · next hr =>
    rw [Bool.not_eq_true] at hr
    split at h
    · cases h
    · next hc =>
      rw [Bool.not_eq_true] at hc
      split at h
      · next hm => injection h with h; exact .inr (.inl ⟨hr, hc, hm, h.symm⟩)
      · next hm =>
        split at h
        · next hi => injection h with h; exact .inr (.inr (.inl ⟨hr, hc, hm, hi, h.symm⟩))
        · next hi =>
          rw [Bool.not_eq_true] at hi
          split at h
          · next hs => injection h with h; exact .inr (.inr (.inr (.inl ⟨hr, hc, hm, hi, hs, h.symm⟩)))
          · next hs => exact .inr (.inr (.inr (.inr (.inl ⟨hr, hc, hm, hi, by simpa using hs, h⟩))))
      · next hm => injection h with h; exact .inr (.inr (.inr (.inr (.inr ⟨hr, hc, hm, h.symm⟩))))
      · cases h

/-- A step is the cycle on the next inputs, with those taken off. -/
theorem step_cases {s t : State} (h : step s = .next t) :
    clockCycle (nextInput s) (takeInput s) = .next t := h

/-- A run goes on from the state its first step leaves. -/
theorem run_of_step {M : Host.Core} {n : Nat} {s t : M.State} (h : M.step s = .next t) :
    M.run (n + 1) s = M.run n t := by
  simp only [Host.Core.run, h]

/-- `run_of_step` for this machine, in the model's own names. -/
theorem core_run_succ {n : Nat} {s t : State} (h : step s = .next t) :
    Host.Core.run core (n + 1) s = Host.Core.run core n t :=
  run_of_step (M := core) h

/-- A run of no step stays where it is. -/
theorem core_run_zero (s : State) : Host.Core.run core 0 s = .next s := rfl

end Sys2Proof.Machine
end

