-- ==== Sys2Proof/Tests/Slice0.lean ====
section
/-! SUPPORT. Small tests with results taken from the spec (95_test_vectors.md, the encoding tables of 30_encoding.md and
the pseudocode of the rules), and a witness for the hypotheses of each statement in Obligations.lean. -/

namespace Sys2Proof.Tests

open Sys2Proof.Machine

/-! ## Helpers -/

/-- Parameters of the test builds: the defaults of 00_scope.md R8 and 16 pins (95_test_vectors.md section 0). -/
def p0 : Params :=
  { numGpio := 16, tickHz := 10, tBadPort := 5, cntWidth := 16,
    sizedFor := { node := 5, net := 5, stor := 5 }, reexamineH1 := false,
    uart := { baud := 115200, dataBits := 8, evenParity := true, stopBits := 1, errorPolicy := .dropCharacter } }

/-- Right after reset with CFG0 and some inputs to come. -/
def boot (l : List CycleIn) : State := State.atReset p0 Config.cfg l

/-- In RUN, with everything else as after reset. -/
def run0 (l : List CycleIn) : State := { boot l with mode := .run }

/-- In RUN with the decoder in state `d` and the control byte `c` latched. -/
def run1 (d : DecSt) (c : Byte) (l : List CycleIn) : State := { run0 l with decSt := d, ctrlLatch := c }

/-- The store of 95_test_vectors.md 1.2, in which an unchanged cell is visible. -/
def store12 : State := { run0 [] with nodeSt := .sync, storSt := .error, netCell := { st := .error, port := 4#3 } }

/-- The state of an outcome. -/
def after (r : Result) : Option State :=
  match r with
  | .next s => some s
  | .fault _ => none
  | .refused _ => none

/-- The store an outcome leaves, with CNT_UNDEF. -/
def store (r : Result) : Option (NodeSt × StorSt × NetCell × Nat) :=
  (after r).map (fun s => (s.nodeSt, s.storSt, s.netCell, s.cntUndef))

/-- The decoder registers an outcome leaves. -/
def decRegs (r : Result) : Option DecoderRegs := (after r).map decoderRegs

/-! ## WellFormed: each check refuses an ill-formed term -/

theorem test_wf_frame_right_checksum : Instr.wellFormed (.frame 0xC0#8 0x13#8) = true := by decide +kernel
theorem test_wf_frame_wrong_checksum : Instr.wellFormed (.frame 0xC0#8 0x12#8) = false := by decide +kernel
theorem test_wf_params : p0.wellFormed = true := by decide
theorem test_wf_few_pins : Params.wellFormed { p0 with numGpio := 8 } = false := by decide
theorem test_wf_no_ticks : Params.wellFormed { p0 with tickHz := 0 } = false := by decide
theorem test_wf_ticks_not_tens : Params.wellFormed { p0 with tickHz := 15 } = false := by decide
theorem test_wf_bad_port_zero : Params.wellFormed { p0 with tBadPort := 0 } = false := by decide

/-- 42_animator_engine.md R128: 5 ticks need 3 bits, and so do 7; 8, 10 and 16 need one bit or two more. -/
theorem test_timer_width :
    tmrWidth p0 = 3 ∧ tmrWidth { p0 with sizedFor := { node := 5, net := 7, stor := 5 } } = 3 ∧
    tmrWidth { p0 with sizedFor := { node := 5, net := 5, stor := 8 } } = 4 ∧ tmrWidth { p0 with tickHz := 20 } = 4 ∧
    tmrWidth { p0 with tBadPort := 16 } = 5 ∧ tmrWidth Config.params = 3 := by decide

theorem test_badframe_needs_wrong_checksum :
    stmtCycles (.badframe 0xC0#8 0x13#8) = none ∧ (stmtCycles (.badframe 0xC0#8 0x12#8)).isSome = true :=
  by decide +kernel
theorem test_cfg_duplicate_pin :
    cfgOk p0 { Config.cfg with node := { norm := 0, err := 1, aux := 8 } } = false ∧ cfgOk p0 Config.cfg = true := by
  decide
theorem test_cfg_pin_out_of_range :
    cfgOk p0 { Config.cfg with stor := { norm := 6, err := 7, aux := 16 } } = false ∧
    cfgOk p0 { Config.cfg with stor := { norm := 6, err := 7, aux := 15 } } = true := by decide
theorem test_cfg_intervals :
    cfgOk p0 { Config.cfg with tIntNet := 0 } = false ∧ cfgOk p0 { Config.cfg with tIntNet := 8 } = false ∧
    cfgOk p0 { Config.cfg with tIntNet := 7 } = true ∧ cfgOk p0 { Config.cfg with tIntNet := 1 } = true := by decide

/-! ## Decoding: words written out from 30_encoding.md R60, R63 to R65 -/

/-- 0101 0101, 1010 1010, and a frame 55 AA C0 13 with a byte behind it. -/
theorem test_decode_frame_rows :
    decode .header0 [0b01010101#8] = .ok (.hdr0, []) ∧ decode .header1 [0b10101010#8] = .ok (.hdr1, []) ∧
    decode .frame [0x55#8, 0xAA#8, 0xC0#8, 0x13#8, 0x07#8] = .ok (.frame 0xC0#8 0x13#8, [0x07#8]) ∧
    decode .header0 [0xAA#8] = .error (.notHeader0 0xAA#8) ∧ decode .header1 [0x55#8] = .error (.notHeader1 0x55#8) ∧
    decode .frame [0x55#8, 0x55#8, 0xC0#8, 0x13#8] = .error (.notHeader1 0x55#8) ∧
    decode .frame [0x55#8, 0xAA#8, 0xC0#8] = .error .tooShort :=
  ⟨rfl, rfl, rfl, rfl, rfl, rfl, rfl⟩

/-- The node bits 7:6, the other bits set. -/
theorem test_decode_node_rows :
    decode .node [0b00111111#8] = .ok (.nodeNormal, []) ∧ decode .node [0b01111111#8] = .ok (.nodeSync, []) ∧
    decode .node [0b11111111#8] = .ok (.nodeError, []) ∧ decode .node [0b10111111#8] = .ok (.nodeUndef, []) :=
  ⟨rfl, rfl, rfl, rfl⟩

/-- The storage bits 5:4, the other bits set. -/
theorem test_decode_storage_rows :
    decode .storage [0b11001111#8] = .ok (.storNormal, []) ∧
    decode .storage [0b11011111#8] = .ok (.storRecovering, []) ∧
    decode .storage [0b11111111#8] = .ok (.storError, []) ∧ decode .storage [0b11101111#8] = .ok (.storUndef, []) :=
  ⟨rfl, rfl, rfl, rfl⟩

/-- The network bits 3:0, the other bits set. -/
theorem test_decode_network_rows :
    decode .network [0b11110000#8] = .ok (.netNormal, []) ∧ decode .network [0b11111111#8] = .ok (.netRecovering, []) ∧
    decode .network [0b11110001#8] = .ok (.netErrorP1, []) ∧ decode .network [0b11110010#8] = .ok (.netErrorP2, []) ∧
    decode .network [0b11110100#8] = .ok (.netErrorP3, []) ∧ decode .network [0b11111000#8] = .ok (.netErrorP4, []) :=
  ⟨rfl, rfl, rfl, rfl, rfl, rfl⟩

theorem test_decode_network_undef_rows :
    decode .network [0b11110011#8] = .ok (.netUndef3, []) ∧ decode .network [0b11110101#8] = .ok (.netUndef5, []) ∧
    decode .network [0b11110110#8] = .ok (.netUndef6, []) ∧ decode .network [0b11110111#8] = .ok (.netUndef7, []) ∧
    decode .network [0b11111001#8] = .ok (.netUndef9, []) ∧ decode .network [0b11111010#8] = .ok (.netUndef10, []) ∧
    decode .network [0b11111011#8] = .ok (.netUndef11, []) ∧ decode .network [0b11111100#8] = .ok (.netUndef12, []) ∧
    decode .network [0b11111101#8] = .ok (.netUndef13, []) ∧ decode .network [0b11111110#8] = .ok (.netUndef14, []) :=
  ⟨rfl, rfl, rfl, rfl, rfl, rfl, rfl, rfl, rfl, rfl⟩

/-- Table words: the headers, a frame (30_encoding.md R77), one row of each segment, and what is no word. -/
theorem test_decode_table_words :
    decodeTableWord 8 0x55 = some .hdr0 ∧ decodeTableWord 8 0xAA = some .hdr1 ∧
    decodeTableWord 32 0x55AAC013 = some (.frame 0xC0#8 0x13#8) ∧ decodeTableWord 32 0x55ABC013 = none ∧
    decodeTableWord 8 0xC0 = some .nodeError ∧ decodeTableWord 8 0x20 = some .storUndef ∧
    decodeTableWord 8 0x08 = some .netErrorP4 ∧ decodeTableWord 16 0x55AA = none := by decide

/-- The very next step after withFetchWord runs the instruction. -/
theorem test_withFetchWord_runs :
    decRegs (step (State.reset.withFetchWord 8 0x55)) = decRegs (exec .hdr0 State.reset) ∧
    (after (step (State.reset.withFetchWord 32 0x55AAC013))).map (fun s => (s.nodeSt, s.cntOk)) = some (.error, 1) ∧
    (after (step (State.reset.withFetchWord 8 0x08))).map (fun s => s.netCell) = some { st := .error, port := 4#3 } :=
  by decide +kernel

/-- From reset with nothing placed: the check, and then RUN without input. -/
theorem test_reset_goes_to_run :
    (after (step State.reset)).map (fun s => (s.mode, s.haltCause, s.decSt)) = some (.run, .none, .hunt) ∧
    Host.Core.run core 2 State.reset = .next { State.reset with
      mode := .run,
      node := { ph := .wait, cur := .normal, stg := 0#4, tmr := 5, lit := ⟨true, false, false⟩ },
      net := { ph := .wait, cur := NetCell.normal, stg := 0#4, tmr := 5, lit := ⟨true, false, false⟩ },
      stor := { ph := .wait, cur := .normal, stg := 0#4, tmr := 5, lit := ⟨true, false, false⟩ } } :=
  ⟨by decide, rfl⟩

/-! ## One step each: the vectors of 95_test_vectors.md 1.2, with the undef column of 2.2 -/

theorem test_hdr0 : (after (exec .hdr0 (run0 []))).map (fun s => (s.decSt, s.cntSync)) = some (.h1, 0) := by decide
theorem test_hdr1 :
    (after (exec .hdr1 (run1 .h1 0#8 []))).map (fun s => (s.decSt, s.cntSync)) = some (.ctrl, 0) := by decide

/-- 95_test_vectors.md 1.3, field independence and checksum rejection. -/
theorem test_frame_accepted :
    store (exec (.frame 0xC0#8 0x13#8) { run1 .csum 0xC0#8 [] with
      nodeSt := .sync, storSt := .recovering, netCell := { st := .error, port := 2#3 } }) =
      some (.error, .normal, { st := .normal, port := 0#3 }, 0) := by decide +kernel
theorem test_frame_rejected :
    [0x12#8, 0x11#8, 0x17#8, 0x1B#8, 0x03#8, 0x33#8, 0x53#8, 0x93#8].map
      (fun k => decRegs (exec (.frame 0xC0#8 k) (run1 .csum 0xC0#8 []))) =
    List.replicate 8 (decRegs (.next { run1 .hunt 0xC0#8 [] with cntCsum := 1 })) := by decide +kernel

theorem test_node_normal :
    store (exec (.frame 0x23#8 0xE3#8) store12) = some (.normal, .error, { st := .error, port := 4#3 }, 2) :=
  by decide +kernel
theorem test_node_sync : store (exec (.frame 0x63#8 0x45#8) store12) = store (.next { store12 with cntUndef := 2 }) :=
  by decide +kernel
theorem test_node_error :
    store (exec (.frame 0xE3#8 0x22#8) store12) = some (.error, .error, { st := .error, port := 4#3 }, 2) :=
  by decide +kernel
theorem test_node_undef :
    store (exec .nodeUndef store12) = some (.sync, .error, { st := .error, port := 4#3 }, 1) := by decide
theorem test_stor_normal :
    store (exec (.frame 0x83#8 0x98#8) store12) = some (.sync, .normal, { st := .error, port := 4#3 }, 2) :=
  by decide +kernel
theorem test_stor_recovering :
    store (exec (.frame 0x93#8 0xE1#8) store12) = some (.sync, .recovering, { st := .error, port := 4#3 }, 2) :=
  by decide +kernel
theorem test_stor_error :
    store (exec (.frame 0xB3#8 0xF4#8) { store12 with storSt := .normal }) =
      some (.sync, .error, { st := .error, port := 4#3 }, 2) := by decide +kernel
theorem test_stor_undef :
    store (exec .storUndef store12) = some (.sync, .error, { st := .error, port := 4#3 }, 1) := by decide
theorem test_net_normal :
    store (exec (.frame 0xA0#8 0xDE#8) store12) = some (.sync, .error, { st := .normal, port := 0#3 }, 2) :=
  by decide +kernel
theorem test_net_recovering :
    store (exec (.frame 0xAF#8 0xD0#8) store12) = some (.sync, .error, { st := .recovering, port := 0#3 }, 2) :=
  by decide +kernel
theorem test_net_error_p1 :
    store (exec (.frame 0xA1#8 0xD9#8) store12) = some (.sync, .error, { st := .error, port := 1#3 }, 2) :=
  by decide +kernel
theorem test_net_error_p2 :
    store (exec (.frame 0xA2#8 0xD0#8) store12) = some (.sync, .error, { st := .error, port := 2#3 }, 2) :=
  by decide +kernel
theorem test_net_error_p3 :
    store (exec (.frame 0xA4#8 0xC2#8) store12) = some (.sync, .error, { st := .error, port := 3#3 }, 2) :=
  by decide +kernel
theorem test_net_error_p4 :
    store (exec (.frame 0xA8#8 0xE6#8) (run0 [])) = some (.normal, .normal, { st := .error, port := 4#3 }, 2) :=
  by decide +kernel

/-- The ten undefined network values leave the cells and count three undefined segments with 0xA_ (2.2). -/
theorem test_net_undef_frames :
    [(0xA3#8, 0xD7#8), (0xA5#8, 0xC5#8), (0xA6#8, 0xCC#8), (0xA7#8, 0xCB#8), (0xA9#8, 0xE1#8)].map
      (fun e => store (exec (.frame e.1 e.2) store12)) =
      List.replicate 5 (some (.sync, .error, { st := .error, port := 4#3 }, 3)) ∧
    [(0xAA#8, 0xCB#8), (0xAB#8, 0xCC#8), (0xAC#8, 0xC5#8), (0xAD#8, 0xC2#8), (0xAE#8, 0xD7#8)].map
      (fun e => store (exec (.frame e.1 e.2) store12)) =
      List.replicate 5 (some (.sync, .error, { st := .error, port := 4#3 }, 3)) := by decide +kernel

/-- The rows themselves, without a frame. -/
theorem test_net_undef_rows :
    [Instr.netUndef3, .netUndef5, .netUndef6, .netUndef7, .netUndef9, .netUndef10, .netUndef11, .netUndef12,
      .netUndef13, .netUndef14].map (fun i => store (exec i store12)) =
    List.replicate 10 (some (.sync, .error, { st := .error, port := 4#3 }, 1)) := by decide

/-- Three undefined segments wrap CNT_UNDEF modulo 2^16 (10_state.md R31; 41_segment_mapping.md R116). -/
theorem test_undef_wraps :
    store (exec (.frame 0xA3#8 0xD7#8) { store12 with cntUndef := 65535 }) =
      some (.sync, .error, { st := .error, port := 4#3 }, 2) := by decide +kernel

/-! ## Witnesses: states and operands that meet the hypotheses of the statements, one for each clause -/

/-- A good state in RUN, the animators not yet started. -/
theorem wit_inv_run0 (l : List CycleIn) : BlockInv (run0 l) where
  params_ok := by show p0.wellFormed = true; decide
  mode_legal := by show Mode.run ≠ .code3; decide
  cause_iff_halt := by show (HaltCause.none = .none ↔ Mode.run ≠ .halt); decide
  node_legal := rfl
  stor_legal := rfl
  net_legal := rfl
  sync_fits := by show 0 < 2 ^ 16; decide
  csum_fits := by show 0 < 2 ^ 16; decide
  ok_fits := by show 0 < 2 ^ 16; decide
  undef_fits := by show 0 < 2 ^ 16; decide
  check_fresh := nofun
  run_cfg := fun _ => by show cfgOk p0 Config.cfg = true; decide
  config_halt := nofun
  node_ok := ⟨rfl, by show 0 < 2 ^ tmrWidth p0; decide, fun _ => rfl, nofun⟩
  net_ok := ⟨rfl, by show 0 < 2 ^ tmrWidth p0; decide, fun _ => rfl, nofun⟩
  stor_ok := ⟨rfl, by show 0 < 2 ^ tmrWidth p0; decide, fun _ => rfl, nofun⟩

/-- Blinking animators: the node in the lit stage of Sync, the network in the last lit stage of Error(4), the storage
in the dark stage of Recovering. -/
def blinking (l : List CycleIn) : State :=
  { run0 l with
    node := { ph := .wait, cur := .sync, stg := 0#4, tmr := 5, lit := { norm := false, err := false, aux := true } }
    net := { ph := .wait, cur := { st := .error, port := 4#3 }, stg := 6#4, tmr := 1,
             lit := { norm := false, err := true, aux := false } }
    stor := { ph := .wait, cur := .recovering, stg := 1#4, tmr := 3, lit := Pins.dark } }

/-- The same in HALT: a shutdown has held the pins. -/
def halted0 (l : List CycleIn) : State := { blinking l with mode := .halt, haltCause := .shutdown }

theorem wit_inv_blinking (l : List CycleIn) : BlockInv (blinking l) :=
  { wit_inv_run0 l with
    check_fresh := nofun
    config_halt := nofun
    node_ok := ⟨rfl, by show 5 < 2 ^ tmrWidth p0; decide, nofun,
      fun _ => ⟨rfl, _, _, rfl, rfl, Nat.le_of_ble_eq_true rfl, by show (5 : Nat) ≤ 10 / 2; decide⟩⟩
    net_ok := ⟨rfl, by show 1 < 2 ^ tmrWidth p0; decide, nofun, fun _ => ⟨by
      show Pins.mk false true false = netPins { st := .error, port := 4#3 } 6
      decide, _, _, rfl, rfl, Nat.le_of_ble_eq_true rfl, by show (1 : Nat) ≤ 10 / 5; decide⟩⟩
    stor_ok := ⟨rfl, by show 3 < 2 ^ tmrWidth p0; decide, nofun,
      fun _ => ⟨rfl, _, _, rfl, rfl, Nat.le_of_ble_eq_true rfl, by show (3 : Nat) ≤ 10 / 2; decide⟩⟩ }

/-- GoodStateAlwaysSteps and StepKeepsInv: a tick, a byte, an unchanged configuration and a reset. -/
theorem wit_steps :
    cfgChanges (nextInput (blinking [tickCycle])) (blinking [tickCycle]) = false ∧
    (after (step (blinking [tickCycle]))).isSome = true ∧
    cfgChanges { byteCycle 0x55#8 with cfg := some Config.cfg } (blinking []) = false ∧
    (nextInput (blinking [resetCycleWith Config.cfg])).rst = true ∧
    (after (step (blinking [resetCycle]))).isSome = true := by decide

/-- CrcIsLinear, with a text of no bytes and one of two. -/
theorem wit_CrcIsLinear :
    ([] : List Byte).length = ([] : List Byte).length ∧ [0x31#8, 0x32#8].length = [0xFF#8, 0x00#8].length := ⟨rfl, rfl⟩

/-- OneBitChecksumErrorIsDropped and UndetectedControlBitFlips: the first and last bit, a flip that is undetected and
one that is not (95_test_vectors.md 2.1). -/
theorem wit_bit_flips :
    0 < 8 ∧ 7 < 8 ∧ expectedCrc 0xC0#8 ^^^ (1#8 <<< 0) = 0x12#8 ∧ expectedCrc 0xC0#8 ^^^ (1#8 <<< 7) = 0x93#8 ∧
    expectedCrc (0xC4#8 ^^^ (1#8 <<< 5)) = expectedCrc 0xC4#8 ∧ expectedCrc (0xC4#8 ^^^ (1#8 <<< 4)) = 0x06#8 ∧
    expectedCrc 0xC4#8 = 0x0F#8 := by decide +kernel

/-- The header search, in the four states of the decoder (40_frame_decoder.md R89). -/
theorem wit_decoder_states :
    (run0 []).decSt = .hunt ∧ (0x00#8 : Byte) ≠ 0x55#8 ∧ (0xAA#8 : Byte) ≠ 0x55#8 ∧
    decRegs (decodeByte 0xAA#8 (run0 [])) = decRegs (.next { run0 [] with cntSync := 1 }) ∧
    (run1 .h1 0#8 []).decSt = .h1 ∧ (0x55#8 : Byte) ≠ 0xAA#8 ∧
    decRegs (decodeByte 0x55#8 (run1 .h1 0#8 [])) = decRegs (.next { run0 [] with cntSync := 1 }) ∧
    decRegs (decodeByte 0x55#8 { run1 .h1 0#8 [] with params := { p0 with reexamineH1 := true } }) =
      decRegs (.next { run1 .h1 0#8 [] with cntSync := 1 }) ∧
    (run1 .ctrl 0#8 []).decSt = .ctrl ∧
    decRegs (decodeByte 0x55#8 (run1 .ctrl 0#8 [])) = decRegs (.next (run1 .csum 0x55#8 [])) := by decide

/-- AcceptedFrameAppliesControl and RejectedFrameIsDropped: CNT_UNDEF at its greatest, and the last control byte. -/
theorem wit_frames :
    ({ run0 [] with cntUndef := 65535 } : State).cntUndef < 2 ^ (run0 []).params.cntWidth ∧
    (run1 .csum 0xFF#8 []).decSt = .csum ∧ (run1 .csum 0xFF#8 []).ctrlLatch = 0xFF#8 ∧
    expectedCrc 0xFF#8 = 0x47#8 ∧ (0x46#8 : Byte) ≠ expectedCrc 0xFF#8 := by decide +kernel

/-- AcceptRunsTheThreeRows and RepeatedFrameKeepsStore: 0x23 has a defined node segment and two undefined ones. -/
theorem wit_rows_of_a_frame :
    exec (nodeRow 0x23#8) store12 = .next { store12 with nodeSt := .normal } ∧
    exec (storageRow 0x23#8) { store12 with nodeSt := .normal } =
      .next { store12 with nodeSt := .normal, cntUndef := 1 } ∧
    exec (networkRow 0x23#8) { store12 with nodeSt := .normal, cntUndef := 1 } =
      .next { store12 with nodeSt := .normal, cntUndef := 2 } ∧
    store (andThen (exec (.frame 0x00#8 (expectedCrc 0x00#8)) store12) (exec (.frame 0x00#8 (expectedCrc 0x00#8)))) =
      some (.normal, .normal, { st := .normal, port := 0#3 }, 0) :=
  ⟨rfl, rfl, rfl, by decide +kernel⟩

/-- DecoderIdlesWithoutByte, AnimatorsFreezeOutsideRunStep and RunStepGatesTheAgents: no byte in RUN, a byte in CHECK,
in HALT and beside an I/O error. -/
theorem wit_no_decoder_operation :
    (after (step (run0 [tickCycle]))).isSome = true ∧ (nextInput (run0 [tickCycle])).rx = none ∧
    (after (step (boot [byteCycle 0x55#8]))).isSome = true ∧
    runStep (nextInput (boot [byteCycle 0x55#8])) (boot [byteCycle 0x55#8]) = false ∧
    (after (step (halted0 [byteCycle 0x55#8]))).isSome = true ∧
    runStep (nextInput (halted0 [byteCycle 0x55#8])) (halted0 [byteCycle 0x55#8]) = false ∧
    (after (step (run0 [{ byteCycle 0x55#8 with ioErr := true }]))).isSome = true ∧
    runStep { byteCycle 0x55#8 with ioErr := true } (run0 []) = false := by decide

/-- FramefCodesInvertTables: abstract states, with the first and last port (30_encoding.md R76). -/
theorem wit_framef :
    nodeLegal .sync = true ∧ storLegal .error = true ∧ netLegal { st := .error, port := 1#3 } = true ∧
    netLegal { st := .error, port := 4#3 } = true ∧ netLegal { st := .error, port := 5#3 } = false ∧
    controlOf .sync .error { st := .error, port := 4#3 } = some 0x78#8 := by decide

/-- The raw values of the segment rows (SegmentDecodeIsTotal to NetworkUndefRowsOnlyCount), with other bits set. -/
theorem wit_raw_values :
    (0x3F#8 : Byte) &&& 0xC0#8 = 0x00#8 ∧ (0x7F#8 : Byte) &&& 0xC0#8 = 0x40#8 ∧ (0xFF#8 : Byte) &&& 0xC0#8 = 0xC0#8 ∧
    (0xBF#8 : Byte) &&& 0xC0#8 = 0x80#8 ∧ (0xCF#8 : Byte) &&& 0x30#8 = 0x00#8 ∧ (0xDF#8 : Byte) &&& 0x30#8 = 0x10#8 ∧
    (0xFF#8 : Byte) &&& 0x30#8 = 0x30#8 ∧ (0xEF#8 : Byte) &&& 0x30#8 = 0x20#8 ∧ (0xF0#8 : Byte) &&& 0x0F#8 = 0x00#8 ∧
    (0xFF#8 : Byte) &&& 0x0F#8 = 0x0F#8 ∧ (0xF1#8 : Byte) &&& 0x0F#8 = 0x01#8 ∧ (0xF8#8 : Byte) &&& 0x0F#8 = 0x08#8 ∧
    ((0xF3#8 : Byte) &&& 0x0F#8).toNat = 3 ∧ ((0xFE#8 : Byte) &&& 0x0F#8).toNat = 14 := by decide

/-- PinActionsRunInOrder: a lit bit, a dark one and another role. -/
theorem wit_pins :
    litOf { norm := true, err := false, aux := false } .norm = true ∧ litOf Pins.dark .norm = false ∧
    Role.err ≠ Role.norm := by decide

/-- The programs: the stages named in NodeProgramsDrivePins, StorageProgramsDrivePins and
NetworkSteadyProgramsDrivePins, the ports at the ends of their ranges, and those of NetworkErrorBlinksPortTimes. -/
theorem wit_programs :
    ((blinking []).node.cur = .sync ∧ (blinking []).node.stg = 0#4) ∧
    ((blinking []).stor.cur = .recovering ∧ (blinking []).stor.stg = 1#4) ∧
    ({ (blinking []).net with cur := { st := .recovering, port := 0#3 }, stg := 0#4 } : Anim NetCell).stg = 0#4 ∧
    (0#3).toNat = 0 ∧ 5 ≤ (5#3).toNat ∧ 5 ≤ (7#3).toNat ∧ 1 ≤ (1#3).toNat ∧ (4#3).toNat ≤ 4 ∧
    (netProgram p0 Config.cfg { st := .error, port := 3#3 }).map (fun P => ((stagesOf P).length, totalWait P)) =
      some (7, 17) ∧
    (netProgram p0 Config.cfg { st := .error, port := 5#3 }).map (fun P => ((stagesOf P).length, totalWait P)) =
      some (1, 5) := by decide

/-- The last tick of three iterations comes next: Normal of the node and the storage, Recovering of the network. -/
def lastTick : State :=
  { run0 [tickCycle] with
    node := { ph := .wait, cur := .normal, stg := 0#4, tmr := 1, lit := ⟨true, false, false⟩ }
    net := { ph := .wait, cur := { st := .recovering, port := 0#3 }, stg := 1#4, tmr := 1, lit := Pins.dark }
    stor := { ph := .wait, cur := .normal, stg := 0#4, tmr := 1, lit := ⟨true, false, false⟩ } }

/-- CodeThreeSampleIsRefused, for each of the three cells: the first sample after reset. -/
theorem wit_code3_first :
    (runStep (nextInput (run0 [])) (run0 []) = true ∧ cfgChanges (nextInput (run0 [])) (run0 []) = false) ∧
    SamplesNow (nodeProgram p0 Config.cfg) false (run0 []).node ∧
    SamplesNow (netProgram p0 Config.cfg) false (run0 []).net ∧
    SamplesNow (storProgram p0 Config.cfg) false (run0 []).stor ∧
    (after (step { run0 [] with nodeSt := .code3 })).isSome = false ∧
    (after (step { run0 [] with netCell := { st := .code3, port := 0#3 } })).isSome = false ∧
    (after (step { run0 [] with storSt := .code3 })).isSome = false :=
  ⟨by decide, .inl rfl, .inl rfl, .inl rfl, by decide, by decide, by decide⟩

/-- CodeThreeSampleIsRefused, for each of the three cells: the sample at the end of an iteration, which runs without
code 3. -/
theorem wit_code3_last :
    (runStep (nextInput lastTick) lastTick = true ∧ cfgChanges (nextInput lastTick) lastTick = false) ∧
    SamplesNow (nodeProgram p0 Config.cfg) true lastTick.node ∧
    SamplesNow (netProgram p0 Config.cfg) true lastTick.net ∧
    SamplesNow (storProgram p0 Config.cfg) true lastTick.stor ∧
    (after (step lastTick)).isSome = true ∧
    (after (step { lastTick with nodeSt := .code3 })).isSome = false ∧
    (after (step { lastTick with netCell := { st := .code3, port := 0#3 } })).isSome = false ∧
    (after (step { lastTick with storSt := .code3 })).isSome = false :=
  ⟨by decide, .inr ⟨rfl, rfl, rfl, _, rfl, rfl⟩, .inr ⟨rfl, rfl, rfl, _, rfl, rfl⟩,
    .inr ⟨rfl, rfl, rfl, _, rfl, rfl⟩, by decide, by decide, by decide, by decide⟩

/-- IterationLastsItsTotalWait and SampleWithinOneIteration: an iteration of NODE.SYNC, ten ticks
(95_test_vectors.md 1.3, animator liveness). -/
theorem wit_iteration :
    nodeProgram p0 Config.cfg .sync = some (nodeSyncProgram p0) ∧
    (∀ st ∈ stagesOf (nodeSyncProgram p0), 1 ≤ st.wait) ∧ (stagesOf (nodeSyncProgram p0)).length ≤ 16 ∧
    ticksIn ((List.replicate 9 [(false, NodeSt.sync), (true, .error)]).flatten) + 1 = totalWait (nodeSyncProgram p0) ∧
    ticksIn ((List.replicate 10 [(false, NodeSt.sync), (true, .error)]).flatten) = totalWait (nodeSyncProgram p0) ∧
    sampleAnim (nodeProgram p0 Config.cfg) .nodeCode3 .sync (blinking []).node = .ok (blinking []).node ∧
    (blinking []).node.ph = .wait ∧
    stageAt (nodeSyncProgram p0) (blinking []).node.stg.toNat = some (nodeSyncProgram p0).first ∧
    (1 ≤ (blinking []).node.tmr ∧ (blinking []).node.tmr ≤ (nodeSyncProgram p0).first.wait) ∧
    runAnim (nodeProgram p0 Config.cfg) .nodeCode3
      ((List.replicate 9 [(false, .sync), (true, .error)]).flatten ++ [(true, .normal)]) (blinking []).node =
      .ok { ph := .wait, cur := .normal, stg := 0#4, tmr := 5, lit := { norm := true, err := false, aux := false } } :=
  ⟨rfl, by decide, by decide, by decide, by decide, rfl, rfl, rfl, by decide, rfl⟩

/-- IterationLastsItsTotalWait, its clauses where stages meet: five ticks start the dark stage, fewer only count, and a
cycle without a tick does nothing to a waiting animator; the first sample needs no tick. -/
theorem wit_iteration_stages :
    (waitBefore (nodeSyncProgram p0) 0, waitBefore (nodeSyncProgram p0) 1) = (0, 5) ∧
    runAnim (nodeProgram p0 Config.cfg) .nodeCode3 (List.replicate 4 (true, .error) ++ [(false, .error)])
      (blinking []).node = .ok { (blinking []).node with tmr := 1 } ∧
    runAnim (nodeProgram p0 Config.cfg) .nodeCode3 (List.replicate 5 (true, .error)) (blinking []).node =
      .ok { (blinking []).node with stg := 1#4, lit := Pins.dark } ∧
    stepAnim (nodeProgram p0 Config.cfg) .nodeCode3 .sync false (run0 []).node = .ok (blinking []).node ∧
    stepAnim (nodeProgram p0 Config.cfg) .nodeCode3 .sync true (run0 []).node = .ok (blinking []).node :=
  ⟨by decide, rfl, rfl, rfl, rfl⟩

/-- AgentsReadStartOfCycleValues and RunStepGatesTheAgents: a tick and a checksum byte in one cycle, in which the node
samples the value its cell had before the frame (70_reset_and_hazards.md R217). -/
theorem wit_stepping_cycle :
    runStep { byteCycle 0x13#8 with tick := true } (run1 .csum 0xC0#8 []) = true ∧
    (after (step (run1 .csum 0xC0#8 [{ byteCycle 0x13#8 with tick := true }]))).map
      (fun s => (s.nodeSt, s.node.cur)) = some (.error, .normal) := by decide +kernel

/-- CheckCycleDecidesMode and StartUpSequence, with a valid configuration and with one that names a pin twice. -/
theorem wit_check :
    (boot [byteCycle 0x55#8]).mode = .check ∧ (nextInput (boot [byteCycle 0x55#8])).rst = false ∧
    cfgChanges (nextInput (boot [byteCycle 0x55#8])) (boot [byteCycle 0x55#8]) = false ∧
    cfgOk p0 Config.cfg = true ∧ cfgOk p0 { Config.cfg with net := Config.cfg.node } = false ∧
    CycleIn.idle.rst = false ∧ CycleIn.idle.cfg = none ∧ CycleIn.idle.ioErr = false ∧
    CycleIn.idle.shutdown = false := by
  decide

/-- HaltEventWritesModeAndCauseOnly and ModeChangesOnlyByTheseEvents: both events at once, and a shutdown alone
(60_exceptions.md R193). -/
theorem wit_halt_events :
    (run0 [{ ioErrCycle with shutdown := true }]).mode = .run ∧
    ({ ioErrCycle with shutdown := true } : CycleIn).rst = false ∧
    (after (step (run0 [{ ioErrCycle with shutdown := true }]))).map (fun s => (s.mode, s.haltCause)) =
      some (.halt, .ioError) ∧
    shutdownCycle.ioErr = false ∧ shutdownCycle.shutdown = true ∧
    (after (step (run0 [shutdownCycle]))).map (fun s => (s.mode, s.haltCause)) = some (.halt, .shutdown) ∧
    (after (step (boot []))).map (fun s => s.mode) = some .run ∧
    (after (step { boot [] with cfg := { Config.cfg with net := Config.cfg.node } })).map
      (fun s => (s.mode, s.haltCause)) = some (.halt, .configError) := by decide

/-- HaltIsLeftByResetOnly and AnimatorsFreezeOutsideRunStep: no cycle, two given cycles, and one more than were given. -/
theorem wit_halt :
    (halted0 []).mode = .halt ∧ (∀ i ∈ (halted0 [tickCycle, ioErrCycle]).stim.take 3, i.rst = false ∧ i.cfg = none) ∧
    (∀ i ∈ (halted0 [resetCycle]).stim.take 0, i.rst = false ∧ i.cfg = none) := by
  refine ⟨rfl, ?_, ?_⟩ <;> simp [halted0, blinking, run0, boot, State.atReset, tickCycle, ioErrCycle, CycleIn.idle]

/-- CodeThreeAndNewConfigRefused. -/
theorem wit_refused_cycles :
    ({ run0 [] with mode := .code3 } : State).mode = .code3 ∧ (nextInput (run0 [])).rst = false ∧
    cfgChanges (nextInput (run0 [])) { run0 [] with mode := .code3 } = false ∧
    ({ Config.cfg with darkLevel := true } : Cfg) ≠ Config.cfg ∧
    (after (step (run0 [{ CycleIn.idle with cfg := some { Config.cfg with darkLevel := true } }]))).isSome = false := by
  decide

/-- Every input at once, with a new configuration. -/
def allInputs : CycleIn :=
  { rst := true, rx := some 0x55#8, ioErr := true, shutdown := true, tick := true,
    cfg := some { Config.cfg with tIntNet := 7 } }

/-- ResetFromAnyState: a reset beside every other input, with a new configuration, from a blinking state; and a reset
alone, which keeps the configuration. -/
theorem wit_reset :
    (nextInput (blinking [allInputs])).rst = true ∧
    (after (step (blinking [allInputs]))).map (fun s => (s.mode, s.cfg.tIntNet, s.node.lit)) =
      some (.check, 7, Pins.dark) ∧
    (after (step (blinking [resetCycle, tickCycle]))).map (fun s => (s.params, s.cfg, s.stim)) =
      some (p0, Config.cfg, [tickCycle]) := by decide

/-- PinOutputsFollowLit and EqualLevelsShowOneLevel: pin 8 is the last configured one, and pin 9 is not configured. -/
theorem wit_outputs :
    (blinking []).mode = .run ∧ cfgOk (blinking []).params (blinking []).cfg = true ∧
    9 ∉ pinList (blinking []).cfg ∧ 8 ∈ pinList (blinking []).cfg ∧ (boot []).mode ≠ .run ∧
    (gpioO (blinking []) 2, gpioOe (blinking []) 2, gpioOe (blinking []) 9) = (true, true, false) ∧
    ({ Config.cfg with darkLevel := true } : Cfg).lightLevel =
      ({ Config.cfg with darkLevel := true } : Cfg).darkLevel := by decide

/-- StatusOutputsShowTheHalt: states with each code of the registers shown, and the last pin of the board. -/
theorem wit_status_outputs :
    (outputs { halted0 [] with nodeSt := .sync, storSt := .error, netCell := { st := .error, port := 4#3 } }).haltCause =
      1#2 ∧
    (outputs { store12 with haltCause := .ioError, cntUndef := 7 }).errorExit = true ∧
    ((outputs store12).nodeState, (outputs store12).storageState, (outputs store12).networkState,
      (outputs store12).networkPort) = (1#2, 2#2, 2#2, 4#3) ∧
    ((outputs (boot [])).nodeState, (outputs (boot [])).storageState, (outputs (boot [])).networkState) =
      (0#2, 0#2, 0#2) ∧
    ((outputs { boot [] with nodeSt := .error, storSt := .recovering, haltCause := .configError }).nodeState,
      (outputs { boot [] with nodeSt := .error, storSt := .recovering }).storageState,
      (outputs { boot [] with netCell := { st := .recovering, port := 0#3 } }).networkState) = (2#2, 1#2, 1#2) ∧
    15 < (blinking []).params.numGpio ∧ (outputs (blinking [])).gpioOe[15]? = some false := by decide

/-- StepRunsDecodedInstruction: a byte that is HDR0, and one that is no instruction. -/
theorem wit_decoded_step :
    runStep (nextInput (run0 [byteCycle 0x55#8])) (run0 [byteCycle 0x55#8]) = true ∧
    cfgChanges (nextInput (run0 [byteCycle 0x55#8])) (run0 [byteCycle 0x55#8]) = false ∧
    (nextInput (run0 [byteCycle 0x55#8])).rx = some 0x55#8 ∧
    (after (animatorsCycle false (takeInput (run0 [byteCycle 0x55#8])))).isSome = true ∧
    fetch 0x55#8 (run0 []) = some .hdr0 ∧ fetch 0x56#8 (run0 []) = none ∧
    fetch 0x00#8 (run1 .csum 0xC0#8 []) = some (.frame 0xC0#8 0x00#8) := by decide

/-- FourBytesRunFrame, FrameBehindStrayByteIsLost and StrayHeaderCapturesHeader: good hunting states in RUN with those
bytes to come (the states are good by `wit_inv_run0`). -/
theorem wit_byte_streams (c k : Byte) :
    (run0 []).mode = .run ∧ (run0 []).decSt = .hunt ∧ (run0 []).params.reexamineH1 = false ∧
    (run0 ([byteCycle 0x55#8, byteCycle 0xAA#8, byteCycle c, byteCycle k] ++ [])).stim =
      [byteCycle 0x55#8, byteCycle 0xAA#8, byteCycle c, byteCycle k] ++ [] ∧
    (run0 ([byteCycle 0x55#8, byteCycle 0x55#8, byteCycle 0xAA#8, byteCycle c, byteCycle k] ++ [])).stim =
      [byteCycle 0x55#8, byteCycle 0x55#8, byteCycle 0xAA#8, byteCycle c, byteCycle k] ++ [] ∧
    (run0 ([byteCycle 0x55#8, byteCycle 0xAA#8, byteCycle 0x55#8, byteCycle 0xAA#8] ++ [tickCycle])).stim =
      [byteCycle 0x55#8, byteCycle 0xAA#8, byteCycle 0x55#8, byteCycle 0xAA#8] ++ [tickCycle] :=
  ⟨rfl, rfl, rfl, rfl, rfl, rfl⟩

/-- ResyncWithoutHeaderPair: the prefix of 95_test_vectors.md 1.3, which ends in the first byte of a header. -/
theorem wit_NoHeaderPair : NoHeaderPair [0x00#8, 0x01#8, 0xAA#8, 0x55#8, 0x01#8, 0x55#8] := by
  intro before after h
  have hl := congrArg List.length h
  simp only [List.length_append, List.length_cons, List.length_nil] at hl
  match before, h, hl with
  | [], h, _ => simp at h
  | [_], h, _ => simp at h
  | [_, _], h, _ => simp at h
  | [_, _, _], h, _ => simp at h
  | [_, _, _, _], h, _ => simp at h
  | _ :: _ :: _ :: _ :: _ :: _, _, hl => simp at hl; omega

/-- The vector itself, with the header's second byte behind it: `CNT_SYNC` is 4 and the decoder in CTRL. -/
theorem test_resync_vector :
    (after ([0x00#8, 0x01#8, 0xAA#8, 0x55#8, 0x01#8, 0x55#8, 0xAA#8].foldl (fun r b => andThen r (decodeByte b))
      (.next (run0 [])))).map (fun s => (s.decSt, s.cntSync, s.cntOk)) = some (.ctrl, 4, 0) := by decide

/-- AgentsDoNotInterfere: two states with the same animators and cells, whose decoders differ. -/
theorem wit_AgentsDoNotInterfere :
    nextInput (blinking []) = nextInput { blinking [] with decSt := .ctrl } ∧
    (after (step (blinking []))).isSome = true ∧ (after (step { blinking [] with decSt := .ctrl })).isSome = true ∧
    decoderRegs (blinking []) = decoderRegs (run0 []) ∧
    decoderRegs (blinking []) ≠ decoderRegs (run1 .ctrl 0#8 []) := by
  decide

end Sys2Proof.Tests
end

section
/-! The output ports of 10_state.md R22: the reading of each port, and the obligation about all of them. -/

namespace Sys2Proof.Machine

theorem halted_eq_true_iff (s : State) : halted s = true ↔ s.mode = .halt := decide_eq_true_iff

theorem errorExit_eq_true_iff (s : State) :
    errorExit s = true ↔ s.haltCause = .ioError ∨ s.haltCause = .configError := decide_eq_true_iff

@[simp] theorem outputs_gpioO_length (s : State) : (outputs s).gpioO.length = s.params.numGpio := by
  simp [outputs]

@[simp] theorem outputs_gpioOe_length (s : State) : (outputs s).gpioOe.length = s.params.numGpio := by
  simp [outputs]

theorem outputs_gpioO_getElem? (s : State) {q : Nat} (hq : q < s.params.numGpio) :
    (outputs s).gpioO[q]? = some (gpioO s q) := by
  simp [outputs, hq]

theorem outputs_gpioOe_getElem? (s : State) {q : Nat} (hq : q < s.params.numGpio) :
    (outputs s).gpioOe[q]? = some (gpioOe s q) := by
  simp [outputs, hq]

/-- Settles O50. A code port is the code function of its register, so a register's value carries over to the port by
congruence; the pin ports list the pins in order. -/
theorem statusOutputsShowTheHalt : Obligations.StatusOutputsShowTheHalt := by
  intro s
  refine ⟨halted_eq_true_iff s, errorExit_eq_true_iff s, ?haltCause, ?node, ?storage, ?network, rfl,
    ⟨rfl, rfl, rfl, rfl⟩, ?pins⟩
  case haltCause =>
    exact ⟨congrArg haltCauseCode, congrArg haltCauseCode, congrArg haltCauseCode, congrArg haltCauseCode⟩
  case node => exact ⟨congrArg nodeCode, congrArg nodeCode, congrArg nodeCode⟩
  case storage => exact ⟨congrArg storCode, congrArg storCode, congrArg storCode⟩
  case network => exact ⟨congrArg netCode, congrArg netCode, congrArg netCode⟩
  case pins =>
    exact ⟨outputs_gpioO_length s, outputs_gpioOe_length s,
      fun _ hq => ⟨outputs_gpioO_getElem? s hq, outputs_gpioOe_getElem? s hq⟩⟩

end Sys2Proof.Machine
end

section
/-! Encodings (30_encoding.md): the segment rows give back the bits they were read from (R61 to R65), and `Dec` is a
decimal numeral (R67). -/

namespace Sys2Proof

/-! ## The control byte and its three rows -/

theorem encode_nodeRow (c : Byte) : encode (nodeRow c) = [c &&& 0xC0#8] := by
  rcases nodeRow_cases c with ⟨hc, hr⟩ | ⟨hc, hr⟩ | ⟨hc, hr⟩ | ⟨hc, hr⟩ <;> rw [hc, hr] <;> rfl

theorem encode_storageRow (c : Byte) : encode (storageRow c) = [c &&& 0x30#8] := by
  rcases storageRow_cases c with ⟨hc, hr⟩ | ⟨hc, hr⟩ | ⟨hc, hr⟩ | ⟨hc, hr⟩ <;> rw [hc, hr] <;> rfl

theorem networkBits_lt (c : Byte) : (c &&& networkMask).toNat < 16 := by
  rw [BitVec.toNat_and]
  exact Nat.lt_succ_of_le Nat.and_le_right

/-- Each named row encodes the value it is matched on; the row left over is that of 15, the one value left. -/
theorem encode_networkRow (c : Byte) : encode (networkRow c) = [c &&& 0x0F#8] := by
  unfold networkRow
  split
  case h_16 =>
    have hlt := networkBits_lt c
    have h15 : (c &&& networkMask).toNat = 15 := by grind
    exact congrArg ([·]) (BitVec.eq_of_toNat_eq h15.symm)
  all_goals next hc => exact congrArg ([·]) (BitVec.eq_of_toNat_eq hc.symm)

/-- Masks that cover the byte split it: their parts joined are the byte. -/
theorem masked_parts_joined {m₁ m₂ m₃ : Byte} (cover : m₁ ||| m₂ ||| m₃ = BitVec.allOnes 8) (c : Byte) :
    (c &&& m₁) ||| (c &&& m₂) ||| (c &&& m₃) = c := by
  rw [← BitVec.and_or_distrib_left, ← BitVec.and_or_distrib_left, cover, BitVec.and_allOnes]

/-- Settles O3. Each row encodes its own segment's bits; the masks cover the byte, so the three parts joined are it. -/
theorem controlByteIsItsThreeRows : Obligations.ControlByteIsItsThreeRows := by
  have cover : nodeMask ||| storageMask ||| networkMask = BitVec.allOnes 8 := by decide
  exact ⟨rfl, rfl, rfl, by decide, by decide, by decide, cover, fun c =>
    ⟨encode_nodeRow c, encode_storageRow c, encode_networkRow c, masked_parts_joined cover c⟩⟩

end Sys2Proof

namespace Sys2Proof.Machine

/-! ## The decimal text of a byte -/

theorem digit_toNat {d : Nat} (hd : d < 10) : (digit d).toNat = 0x30 + d := by
  simp only [digit, BitVec.toNat_ofNat]
  omega

theorem digit_ne_zero_code {d : Nat} (hd : d < 10) (hpos : 0 < d) : digit d ≠ 0x30#8 := by
  intro h
  have hcode : (digit d).toNat = 0x30 := congrArg BitVec.toNat h
  rw [digit_toNat hd] at hcode
  omega

/-- `Dec`'s three ranges. -/
theorem dec_cases (v : Byte) :
    (v.toNat < 10 ∧ dec v = [digit v.toNat]) ∨
    (10 ≤ v.toNat ∧ v.toNat < 100 ∧ dec v = [digit (v.toNat / 10), digit (v.toNat % 10)]) ∨
    (100 ≤ v.toNat ∧
      dec v = [digit (v.toNat / 100), digit (v.toNat / 10 % 10), digit (v.toNat % 10)]) := by
  unfold dec
  by_cases h10 : v.toNat < 10
  · exact .inl ⟨h10, if_pos h10⟩
  · by_cases h100 : v.toNat < 100
    · exact .inr (.inl ⟨by omega, h100, by simp [h10, h100]⟩)
    · exact .inr (.inr ⟨by omega, by simp [h10, h100]⟩)

theorem dec_length (v : Byte) :
    (dec v).length = if v.toNat < 10 then 1 else if v.toNat < 100 then 2 else 3 := by
  rcases dec_cases v with ⟨h10, hv⟩ | ⟨h10, h100, hv⟩ | ⟨h100, hv⟩ <;> rw [hv]
  · rw [if_pos h10]; rfl
  · rw [if_neg (by omega), if_pos h100]; rfl
  · rw [if_neg (by omega), if_neg (by omega)]; rfl

/-- Every byte of the text is a digit's code: the hundreds of a byte are at most 2. -/
theorem exists_digit_of_mem_dec {v d : Byte} (hd : d ∈ dec v) : ∃ k < 10, d = digit k := by
  have hlt := v.isLt
  rcases dec_cases v with ⟨h10, hv⟩ | ⟨h10, h100, hv⟩ | ⟨h100, hv⟩ <;>
    simp only [hv, List.mem_cons, List.not_mem_nil, or_false] at hd
  · exact ⟨_, h10, hd⟩
  · rcases hd with rfl | rfl <;> exact ⟨_, by omega, rfl⟩
  · rcases hd with rfl | rfl | rfl <;> exact ⟨_, by omega, rfl⟩

/-- Reading the text in base ten gives the byte back. -/
theorem dec_value (v : Byte) : (dec v).foldl (fun n d => n * 10 + (d.toNat - 0x30)) 0 = v.toNat := by
  have hlt := v.isLt
  have hunits : v.toNat % 10 < 10 := by omega
  have htens : v.toNat / 10 % 10 < 10 := by omega
  have hhundreds : v.toNat / 100 < 10 := by omega
  rcases dec_cases v with ⟨h10, hv⟩ | ⟨h10, h100, hv⟩ | ⟨h100, hv⟩ <;> rw [hv]
  · simp [digit_toNat h10]
  · have hlead : v.toNat / 10 < 10 := by omega
    simp only [List.foldl, digit_toNat hlead, digit_toNat hunits]
    omega
  · simp only [List.foldl, digit_toNat hhundreds, digit_toNat htens, digit_toNat hunits]
    omega

/-- In each range the leading digit is positive: the range's lower bound is its place value. -/
theorem dec_no_leading_zero {v : Byte} (hv0 : v ≠ 0#8) : (dec v).head? ≠ some 0x30#8 := by
  have hlt := v.isLt
  have hpos : v.toNat ≠ 0 := fun h => hv0 (BitVec.eq_of_toNat_eq h)
  rcases dec_cases v with ⟨h10, hv⟩ | ⟨h10, h100, hv⟩ | ⟨h100, hv⟩ <;> rw [hv, List.head?_cons] <;>
    exact fun h => digit_ne_zero_code (by omega) (by omega) (Option.some.inj h)

/-- Settles O5, from one lemma for each clause, each by `Dec`'s three ranges. -/
theorem decimalTextOfByte : Obligations.DecimalTextOfByte := by
  intro v
  refine ⟨dec_length v, ?digits, dec_value v, dec_no_leading_zero, rfl⟩
  case digits =>
    intro d hd
    obtain ⟨k, hk, rfl⟩ := exists_digit_of_mem_dec hd
    rw [digit_toNat hk]
    omega

end Sys2Proof.Machine
end

section
/-! The frame decoder (40_frame_decoder.md): what one byte does in each state of the decoder (R81 to R87), and that
without a byte, or outside a stepping cycle, the decoder stands still (R80, R88). -/

namespace Sys2Proof.Machine

/-! ## The two branches of a delivered byte, and the operations of each -/

theorem decodeByte_of_fetch_some {b : Byte} {s : State} {i : Instr} (h : fetch b s = some i) :
    decodeByte b s = exec i s := by
  simp only [decodeByte, h]

theorem decodeByte_of_fetch_none {b : Byte} {s : State} (h : fetch b s = none) :
    decodeByte b s = .next (withoutInstr b s) := by
  simp only [decodeByte, h]

theorem withoutInstr_hunt {s : State} (b : Byte) (h : s.decSt = .hunt) : withoutInstr b s = huntDiscard s := by
  simp only [withoutInstr, h]

theorem withoutInstr_h1 {s : State} (b : Byte) (h : s.decSt = .h1) : withoutInstr b s = h1Mismatch b s := by
  simp only [withoutInstr, h]

theorem withoutInstr_ctrl {s : State} (b : Byte) (h : s.decSt = .ctrl) : withoutInstr b s = latchControl b s := by
  simp only [withoutInstr, h]

theorem exec_hdr0 (s : State) : exec .hdr0 s = .next { s with decSt := .h1 } := rfl

theorem exec_hdr1 (s : State) : exec .hdr1 s = .next { s with decSt := .ctrl } := rfl

/-- Both branches of a header mismatch count; they differ in the state the decoder goes to. -/
theorem h1Mismatch_eq (b : Byte) (s : State) :
    h1Mismatch b s =
      { s with
        decSt := if s.params.reexamineH1 = true ∧ b = 0x55#8 then .h1 else .hunt
        cntSync := bump s.params s.cntSync } := by
  by_cases h : s.params.reexamineH1 = true ∧ b = 0x55#8
  · rw [h1Mismatch, if_pos h, if_pos h]; rfl
  · rw [h1Mismatch, if_neg h, if_neg h]; rfl

/-! ## The header search and the control byte -/

/-- Settles O10. -/
theorem hdr0StartsHeader : Obligations.Hdr0StartsHeader := by
  refine ⟨exec_hdr0, fun s hs => ?_⟩
  have hfetch : fetch 0x55#8 s = some .hdr0 := (fetch_hunt _ hs).trans (if_pos rfl)
  exact ⟨hfetch, (decodeByte_of_fetch_some hfetch).trans (exec_hdr0 s)⟩

/-- Settles O11. -/
theorem hdr1CompletesHeader : Obligations.Hdr1CompletesHeader := by
  refine ⟨exec_hdr1, fun s hs => ?_⟩
  have hfetch : fetch 0xAA#8 s = some .hdr1 := (fetch_h1 _ hs).trans (if_pos rfl)
  exact ⟨hfetch, (decodeByte_of_fetch_some hfetch).trans (exec_hdr1 s)⟩

/-- Settles O12: in HUNT only 0x55 is an instruction. -/
theorem huntDiscardsAndCounts : Obligations.HuntDiscardsAndCounts := by
  intro b s hs hb
  have hfetch : fetch b s = none := (fetch_hunt b hs).trans (if_neg hb)
  rw [decodeByte_of_fetch_none hfetch, withoutInstr_hunt b hs]
  rfl

/-- Settles O13: in H1 only 0xAA is an instruction. -/
theorem headerMismatchResynchronises : Obligations.HeaderMismatchResynchronises := by
  intro b s hs hb
  have hfetch : fetch b s = none := (fetch_h1 b hs).trans (if_neg hb)
  rw [decodeByte_of_fetch_none hfetch, withoutInstr_h1 b hs, h1Mismatch_eq]
  rfl

/-- Settles O14: in CTRL no byte is an instruction. -/
theorem controlByteIsLatched : Obligations.ControlByteIsLatched := by
  intro b s hs
  rw [decodeByte_of_fetch_none (fetch_ctrl b hs), withoutInstr_ctrl b hs]
  rfl

/-! ## The checksum byte -/

/-- A byte in CSUM is the checksum of the FRAME whose control byte was latched (R86, R87). -/
theorem decodeByte_csum {c : Byte} {s : State} (k : Byte) (hs : s.decSt = .csum) (hc : s.ctrlLatch = c) :
    decodeByte k s = exec (.frame c k) s := by
  rw [decodeByte_of_fetch_some (fetch_csum k hs), hc]

/-- `Apply(c)` as one update of the state. Each undefined segment counts modulo `2^CNT_WIDTH`, and with none the
counter is not reduced, so it must fit its width before. -/
theorem applyControl_eq_next (c : Byte) {s : State} (hfit : s.cntUndef < 2 ^ s.params.cntWidth) :
    applyControl c s =
      .next { s with
        nodeSt := (nodeValue c).getD s.nodeSt
        storSt := (storageValue c).getD s.storSt
        netCell := (networkValue c).getD s.netCell
        cntUndef := (s.cntUndef + undefCount c) % 2 ^ s.params.cntWidth } := by
  obtain ⟨t, happly, hparams, hcfg, hstim, hmode, hcause, hdec, hlatch, hsync, hcsum, hok, hnode, hnet, hstor,
    hnodeSt, hstorSt, hnetCell, hundef⟩ := applyControl_eq c s
  rw [happly, ← hnodeSt, ← hstorSt, ← hnetCell, ← hundef hfit, ← hparams, ← hcfg, ← hstim, ← hmode, ← hcause, ← hdec,
    ← hlatch, ← hsync, ← hcsum, ← hok, ← hnode, ← hnet, ← hstor]

theorem exec_frame_expected (c : Byte) {s : State} (hfit : s.cntUndef < 2 ^ s.params.cntWidth) :
    exec (.frame c (expectedCrc c)) s = .next (acceptedFrame c s) := by
  have haccept : exec (.frame c (expectedCrc c)) s = csumAccept c s := if_pos rfl
  rw [haccept, csumAccept, applyControl_eq_next c hfit]
  rfl

theorem exec_frame_unexpected {c k : Byte} (hk : k ≠ expectedCrc c) (s : State) :
    exec (.frame c k) s = .next { s with cntCsum := (s.cntCsum + 1) % 2 ^ s.params.cntWidth, decSt := .hunt } :=
  if_neg hk

/-- Settles O15. -/
theorem acceptedFrameAppliesControl : Obligations.AcceptedFrameAppliesControl := by
  intro c s hfit
  have haccepted := exec_frame_expected c hfit
  exact ⟨haccepted, fun hs hc => (decodeByte_csum _ hs hc).trans haccepted⟩

/-- Settles O16. -/
theorem rejectedFrameIsDropped : Obligations.RejectedFrameIsDropped := by
  intro c k s hk
  have hdropped := exec_frame_unexpected hk s
  exact ⟨hdropped, fun hs hc => (decodeByte_csum k hs hc).trans hdropped⟩

/-! ## Cycles without a decoder operation -/

theorem decoderCycle_none (s : State) : decoderCycle none s = .next s := rfl

@[simp] theorem decoderRegs_takeInput (s : State) : decoderRegs (takeInput s) = decoderRegs s := rfl

@[simp] theorem decoderRegs_raiseHalt (h : HaltCause) (s : State) : decoderRegs (raiseHalt h s) = decoderRegs s := rfl

@[simp] theorem decoderRegs_sysCheck (s : State) : decoderRegs (sysCheck s) = decoderRegs s := by
  unfold sysCheck
  split <;> rfl

theorem runStep_eq_true_iff {inp : CycleIn} {s : State} :
    runStep inp s = true ↔ inp.rst = false ∧ s.mode = .run ∧ inp.ioErr = false ∧ inp.shutdown = false := by
  simp [runStep, and_assoc]

/-- A stepping cycle without a byte is the animators' alone. -/
theorem runCycle_keeps_decoderRegs {inp : CycleIn} {s t : State} (hrx : inp.rx = none)
    (h : runCycle inp s = .next t) : decoderRegs t = decoderRegs s := by
  obtain ⟨a, n, r, -, -, -, hdec⟩ := runCycle_eq_next.mp h
  rw [hrx, decoderCycle_none] at hdec
  injection hdec with ht
  rw [← ht]
  rfl

/-- Of the six things a cycle can do, only a reset, which is excluded here, and a stepping cycle with a byte write
the decoder's registers. -/
theorem clockCycle_keeps_decoderRegs {inp : CycleIn} {s t : State} (h : clockCycle inp s = .next t)
    (hrst : inp.rst = false) (hidle : inp.rx = none ∨ runStep inp s = false) : decoderRegs t = decoderRegs s := by
  rcases clockCycle_cases h with ⟨hreset, -⟩ | ⟨-, -, -, rfl⟩ | ⟨-, -, -, -, rfl⟩ | ⟨-, -, -, -, -, rfl⟩ |
    ⟨-, -, hmode, hio, hshut, hrun⟩ | ⟨-, -, -, rfl⟩
  · rw [hrst] at hreset
    contradiction
  · exact decoderRegs_sysCheck s
  · exact decoderRegs_raiseHalt _ s
  · exact decoderRegs_raiseHalt _ s
  · rcases hidle with hrx | hstep
    · exact runCycle_keeps_decoderRegs hrx hrun
    · rw [runStep_eq_true_iff.mpr ⟨hrst, hmode, hio, hshut⟩] at hstep
      contradiction
  · rfl

/-- Settles O18. `RunStep` reads the mode, which taking the inputs off the stimulus leaves. -/
theorem decoderIdlesWithoutByte : Obligations.DecoderIdlesWithoutByte :=
  ⟨decoderCycle_none, fun s _ hstep hrst hidle =>
    (clockCycle_keeps_decoderRegs (step_cases hstep) hrst hidle).trans (decoderRegs_takeInput s)⟩

end Sys2Proof.Machine
end

section
/-! The segment rows (41_segment_mapping.md R101 to R115): the raw values that decode to each row, what a row does in
every state, and that an undefined segment does not keep an accepted frame from applying the other two. -/

namespace Sys2Proof

/-! ## A segment is read from its own bits alone

So a byte decodes as the raw value its segment holds, the other bits being zero. -/

theorem nodeRow_eq_of_bits_eq {c d : Byte} (h : c &&& 0xC0#8 = d &&& 0xC0#8) : nodeRow c = nodeRow d := by
  unfold nodeRow nodeMask
  rw [h]

theorem storageRow_eq_of_bits_eq {c d : Byte} (h : c &&& 0x30#8 = d &&& 0x30#8) : storageRow c = storageRow d := by
  unfold storageRow storageMask
  rw [h]

theorem networkRow_eq_of_bits_eq {c d : Byte} (h : c &&& 0x0F#8 = d &&& 0x0F#8) : networkRow c = networkRow d := by
  unfold networkRow networkMask
  rw [h]

theorem formatOf_networkRow (c : Byte) : formatOf (networkRow c) = .network := by
  unfold networkRow
  split <;> rfl

end Sys2Proof

namespace Sys2Proof.Machine

theorem nodeValue_eq_of_bits_eq {c d : Byte} (h : c &&& 0xC0#8 = d &&& 0xC0#8) : nodeValue c = nodeValue d := by
  unfold nodeValue
  rw [h]

theorem storageValue_eq_of_bits_eq {c d : Byte} (h : c &&& 0x30#8 = d &&& 0x30#8) :
    storageValue c = storageValue d := by
  unfold storageValue
  rw [h]

theorem networkValue_eq_of_bits_eq {c d : Byte} (h : c &&& 0x0F#8 = d &&& 0x0F#8) :
    networkValue c = networkValue d := by
  unfold networkValue
  rw [h]

/-! ## The rows and the accepted frame -/

/-- A network row without a value in the table writes no cell; it counts (R115, R116). -/
theorem exec_networkRow_of_value_none {c : Byte} (h : networkValue c = none) (s : State) :
    exec (networkRow c) s = .next (countUndef s) := by
  rw [← runSegment_eq_exec _ (.inr (.inr (formatOf_networkRow c))), runSegment_networkRow, h]

/-- The cells after an accepted frame, from every state: unlike `exec_frame_expected` this says nothing of the
counters, so it needs none to fit its width (R100). -/
theorem exec_frame_expected_cells (c : Byte) (s : State) :
    ∃ t, exec (.frame c (expectedCrc c)) s = .next t ∧ t.nodeSt = (nodeValue c).getD s.nodeSt ∧
      t.storSt = (storageValue c).getD s.storSt ∧ t.netCell = (networkValue c).getD s.netCell := by
  obtain ⟨t, happly, -, -, -, -, -, -, -, -, -, -, -, -, -, hnode, hstor, hnet, -⟩ := applyControl_eq c s
  have haccept : exec (.frame c (expectedCrc c)) s = csumAccept c s := if_pos rfl
  rw [haccept, csumAccept, happly]
  exact ⟨_, rfl, hnode, hstor, hnet⟩

/-! ## The node segment -/

/-- Settles O22. -/
theorem nodeRowsWriteNodeCell : Obligations.NodeRowsWriteNodeCell := by
  refine ⟨fun c => ⟨?normal, ?sync, ?error⟩, fun s => ⟨rfl, rfl, rfl⟩⟩
  case normal => exact nodeRow_eq_of_bits_eq (d := 0x00#8)
  case sync => exact nodeRow_eq_of_bits_eq (d := 0x40#8)
  case error => exact nodeRow_eq_of_bits_eq (d := 0xC0#8)

/-- Settles O23. The bits 0x80 have no value in the table of R63, so the frame keeps the node cell. -/
theorem nodeUndefOnlyCounts : Obligations.NodeUndefOnlyCounts := by
  refine ⟨fun c hc => ⟨nodeRow_eq_of_bits_eq (d := 0x80#8) hc, fun s => ?frame⟩, fun s => rfl⟩
  case frame =>
    have hvalue : nodeValue c = none := nodeValue_eq_of_bits_eq (d := 0x80#8) hc
    obtain ⟨t, hexec, hnode, hstor, hnet⟩ := exec_frame_expected_cells c s
    rw [hvalue] at hnode
    exact ⟨t, hexec, hnode, hstor, hnet⟩

/-! ## The storage segment -/

/-- Settles O24. -/
theorem storageRowsWriteStorageCell : Obligations.StorageRowsWriteStorageCell := by
  refine ⟨fun c => ⟨?normal, ?recovering, ?error⟩, fun s => ⟨rfl, rfl, rfl⟩⟩
  case normal => exact storageRow_eq_of_bits_eq (d := 0x00#8)
  case recovering => exact storageRow_eq_of_bits_eq (d := 0x10#8)
  case error => exact storageRow_eq_of_bits_eq (d := 0x30#8)

/-- Settles O25. The bits 0x20 have no value in the table of R64, so the frame keeps the storage cell. -/
theorem storageUndefOnlyCounts : Obligations.StorageUndefOnlyCounts := by
  refine ⟨fun c hc => ⟨storageRow_eq_of_bits_eq (d := 0x20#8) hc, fun s => ?frame⟩, fun s => rfl⟩
  case frame =>
    have hvalue : storageValue c = none := storageValue_eq_of_bits_eq (d := 0x20#8) hc
    obtain ⟨t, hexec, hnode, hstor, hnet⟩ := exec_frame_expected_cells c s
    rw [hvalue] at hstor
    exact ⟨t, hexec, hstor, hnode, hnet⟩

/-! ## The network segment -/

/-- Settles O26. -/
theorem networkStateRowsClearPort : Obligations.NetworkStateRowsClearPort := by
  refine ⟨fun c => ⟨?normal, ?recovering⟩, fun s => ⟨rfl, rfl⟩⟩
  case normal => exact networkRow_eq_of_bits_eq (d := 0x00#8)
  case recovering => exact networkRow_eq_of_bits_eq (d := 0x0F#8)

/-- Settles O27. -/
theorem networkErrorRowsWritePort : Obligations.NetworkErrorRowsWritePort := by
  refine ⟨fun c => ⟨?port1, ?port2, ?port3, ?port4⟩, fun s => ⟨rfl, rfl, rfl, rfl⟩⟩
  case port1 => exact networkRow_eq_of_bits_eq (d := 0x01#8)
  case port2 => exact networkRow_eq_of_bits_eq (d := 0x02#8)
  case port3 => exact networkRow_eq_of_bits_eq (d := 0x04#8)
  case port4 => exact networkRow_eq_of_bits_eq (d := 0x08#8)

/-- The undefined network values with their rows (R115). -/
def undefNetworkRows : List (Nat × Instr) :=
  [(3, .netUndef3), (5, .netUndef5), (6, .netUndef6), (7, .netUndef7), (9, .netUndef9), (10, .netUndef10),
    (11, .netUndef11), (12, .netUndef12), (13, .netUndef13), (14, .netUndef14)]

/-- The byte of an undefined value holds it in its network bits, decodes to its row and has no value to write. -/
theorem undefNetworkRows_decode : ∀ p ∈ undefNetworkRows,
    (BitVec.ofNat 8 p.1 &&& 0x0F#8).toNat = p.1 ∧ networkRow (BitVec.ofNat 8 p.1) = p.2 ∧
      networkValue (BitVec.ofNat 8 p.1) = none := by
  decide

/-- Settles O28. All ten values go one way: what holds of the byte of the value alone holds of every byte with those
network bits. -/
theorem networkUndefRowsOnlyCount : Obligations.NetworkUndefRowsOnlyCount := by
  intro p hp
  obtain ⟨hbits, hrow, hvalue⟩ := undefNetworkRows_decode p hp
  refine ⟨fun c hc => ?decodes, fun s => ?counts⟩
  case decodes =>
    have hsame : c &&& 0x0F#8 = BitVec.ofNat 8 p.1 &&& 0x0F#8 := BitVec.eq_of_toNat_eq (hc.trans hbits.symm)
    refine ⟨(networkRow_eq_of_bits_eq hsame).trans hrow, fun s => ?_⟩
    obtain ⟨t, hexec, hnode, hstor, hnet⟩ := exec_frame_expected_cells c s
    rw [networkValue_eq_of_bits_eq hsame, hvalue] at hnet
    exact ⟨t, hexec, hnet, hnode, hstor⟩
  case counts =>
    rw [← hrow]
    exact exec_networkRow_of_value_none hvalue s

end Sys2Proof.Machine
end

section
/-! The animator engine (42_animator_engine.md): the pin actions of a stage run in the order written (R121), and outside
`RunStep` no animator writes a register (R125). -/

namespace Sys2Proof.Machine

/-! ## Pin bits and pin actions -/

@[simp] theorem litOf_setPin_same (l : Pins) (r : Role) (v : Bool) : litOf (setPin l r v) r = v := by
  cases r <;> rfl

/-- A write to one pin's bit is not seen at another pin. -/
theorem litOf_setPin_of_ne (l : Pins) {q r : Role} (hqr : q ≠ r) (v : Bool) : litOf (setPin l r v) q = litOf l q := by
  match q, r, hqr with
  | .norm, .err, _ | .norm, .aux, _ | .err, .norm, _ | .err, .aux, _ | .aux, .norm, _ | .aux, .err, _ => rfl

@[simp] theorem runActions_done (l : Pins) : runActions .done l = l := by
  rw [runActions]

@[simp] theorem runActions_setLit (r : Role) (rest : Actions) (l : Pins) :
    runActions (.setLit r rest) l = runActions rest (setPin l r true) := by
  rw [runActions]

@[simp] theorem runActions_setDark (r : Role) (rest : Actions) (l : Pins) :
    runActions (.setDark r rest) l = runActions rest (setPin l r false) := by
  rw [runActions]

@[simp] theorem runActions_ifLit (r : Role) (body rest : Actions) (l : Pins) :
    runActions (.ifLit r body rest) l = runActions rest (if litOf l r then runActions body l else l) := by
  rw [runActions]

@[simp] theorem runActions_ifDark (r : Role) (body rest : Actions) (l : Pins) :
    runActions (.ifDark r body rest) l = runActions rest (if litOf l r then l else runActions body l) := by
  rw [runActions]

/-- Settles O29. The bit a condition reads picks one branch of its equation. -/
theorem pinActionsRunInOrder : Obligations.PinActionsRunInOrder := by
  intro r a b l
  refine ⟨runActions_done l, runActions_setLit r a l, runActions_setDark r a l, fun hlit => ?lit, fun hdark => ?dark,
    litOf_setPin_same l r true, litOf_setPin_same l r false, fun _ hqr v => litOf_setPin_of_ne l hqr v⟩
  case lit => constructor <;> simp [hlit]
  case dark => constructor <;> simp [hdark]

/-! ## Cycles outside `RunStep` -/

@[simp] theorem sysCheck_node (s : State) : (sysCheck s).node = s.node := by
  unfold sysCheck
  split <;> rfl

@[simp] theorem sysCheck_net (s : State) : (sysCheck s).net = s.net := by
  unfold sysCheck
  split <;> rfl

@[simp] theorem sysCheck_stor (s : State) : (sysCheck s).stor = s.stor := by
  unfold sysCheck
  split <;> rfl

/-- Without reset and outside `RunStep` a cycle is the configuration check, a halt entry, or a cycle of HALT. -/
theorem clockCycle_outside_runStep {inp : CycleIn} {s t : State} (h : clockCycle inp s = .next t)
    (hrst : inp.rst = false) (hstep : runStep inp s = false) :
    t = sysCheck s ∨ (∃ cause, t = raiseHalt cause s) ∨ t = s := by
  rcases clockCycle_cases h with ⟨hreset, -⟩ | ⟨-, -, -, hcheck⟩ | ⟨-, -, -, -, hio⟩ | ⟨-, -, -, -, -, hshut⟩ |
    ⟨-, -, hmode, hio, hshut, -⟩ | ⟨-, -, -, hhalt⟩
  · rw [hrst] at hreset
    contradiction
  · exact .inl hcheck
  · exact .inr (.inl ⟨_, hio⟩)
  · exact .inr (.inl ⟨_, hshut⟩)
  · rw [runStep_eq_true_iff.mpr ⟨hrst, hmode, hio, hshut⟩] at hstep
    contradiction
  · exact .inr (.inr hhalt)

theorem clockCycle_keeps_animators {inp : CycleIn} {s t : State} (h : clockCycle inp s = .next t)
    (hrst : inp.rst = false) (hstep : runStep inp s = false) :
    t.node = s.node ∧ t.net = s.net ∧ t.stor = s.stor := by
  rcases clockCycle_outside_runStep h hrst hstep with rfl | ⟨cause, rfl⟩ | rfl
  · exact ⟨sysCheck_node s, sysCheck_net s, sysCheck_stor s⟩
  · exact ⟨raiseHalt_node s cause, raiseHalt_net s cause, raiseHalt_stor s cause⟩
  · exact ⟨rfl, rfl, rfl⟩

/-! ## Runs in HALT -/

theorem cfgChanges_of_cfg_none {inp : CycleIn} (h : inp.cfg = none) (s : State) : cfgChanges inp s = false := by
  simp only [cfgChanges, h]

/-- A cycle of HALT takes its inputs off the stimulus and does nothing else (46_orchestrator.md R173). -/
theorem step_of_halt {s : State} (hmode : s.mode = .halt) (hrst : (nextInput s).rst = false)
    (hcfg : (nextInput s).cfg = none) : step s = .next (takeInput s) := by
  simp [step, clockCycle, hrst, cfgChanges_of_cfg_none hcfg, hmode]

/-- What holds of the first `n + 1` given inputs and of idle inputs holds of the next cycle's: after the last given
cycle the inputs are idle. -/
theorem nextInput_of_forall_take {P : CycleIn → Prop} {s : State} {n : Nat} (hidle : P CycleIn.idle)
    (h : ∀ i ∈ s.stim.take (n + 1), P i) : P (nextInput s) := by
  unfold nextInput
  cases hstim : s.stim with
  | nil => exact hidle
  | cons i rest => exact h i (by simp [hstim])

/-- HALT over `n` cycles without reset, by induction on `n`: each uses up its inputs. -/
theorem run_of_halt {s : State} {n : Nat} (hmode : s.mode = .halt)
    (hinputs : ∀ i ∈ s.stim.take n, i.rst = false ∧ i.cfg = none) :
    Host.Core.run core n s = .next { s with stim := s.stim.drop n } := by
  induction n generalizing s with
  | zero => exact core_run_zero s
  | succ n ih =>
    obtain ⟨hrst, hcfg⟩ := nextInput_of_forall_take (P := fun i => i.rst = false ∧ i.cfg = none) ⟨rfl, rfl⟩ hinputs
    have hrest : ∀ i ∈ (takeInput s).stim.take n, i.rst = false ∧ i.cfg = none := by
      intro i hi
      rw [takeInput_stim, ← List.drop_one, List.take_drop, Nat.add_comm] at hi
      exact hinputs i (List.mem_of_mem_drop hi)
    calc Host.Core.run core (n + 1) s
        = Host.Core.run core n (takeInput s) := core_run_succ (step_of_halt hmode hrst hcfg)
      _ = .next { takeInput s with stim := (takeInput s).stim.drop n } := ih hmode hrest
      _ = .next { s with stim := s.stim.drop (n + 1) } := by rw [takeInput_stim, List.drop_tail]; rfl

/-- Settles O38. A cycle outside `RunStep` never reaches the animators' part; a run in HALT changes the stimulus
alone. -/
theorem animatorsFreezeOutsideRunStep : Obligations.AnimatorsFreezeOutsideRunStep := by
  refine ⟨fun s t hstep hrst houtside => ?step, fun s t n hmode hinputs hrun => ?halt⟩
  case step =>
    obtain ⟨hnode, hnet, hstor⟩ := clockCycle_keeps_animators (step_cases hstep) hrst houtside
    exact ⟨hnode.trans (takeInput_node s), hnet.trans (takeInput_net s), hstor.trans (takeInput_stor s)⟩
  case halt =>
    rw [run_of_halt hmode hinputs] at hrun
    injection hrun with ht
    rw [← ht]
    exact ⟨rfl, rfl, rfl⟩

end Sys2Proof.Machine
end

section
/-! The node animator (43_node_animator.md): what its samples and stages do to the pins (R140 to R142), and that an
animator's sample of code 3 is refused (R143; 44_network_animator.md R154; 45_storage_animator.md R163). -/

namespace Sys2Proof.Machine

/-! ## Samples and stage ends, as equations -/

section
variable {σ : Type} {prog : σ → Option Program} {code3 : Refusal} {v : σ} {a : Anim σ} {P : Program}

theorem sampleAnim_of_program (hP : prog v = some P) :
    sampleAnim prog code3 v a =
      .ok { ph := .wait, cur := v, stg := 0#4, tmr := P.first.wait, lit := runActions P.first.actions a.lit } :=
  sampleAnim_eq_ok.mpr ⟨P, hP, rfl⟩

theorem sampleAnim_of_no_program (hv : prog v = none) : sampleAnim prog code3 v a = .error code3 := by
  simp only [sampleAnim, hv]

theorem endStage_of_next_stage {st : Stage} (hP : prog a.cur = some P) (hst : stageAt P (a.stg.toNat + 1) = some st) :
    endStage prog code3 v a = .ok (startStage (a.stg.toNat + 1) st a) :=
  endStage_eq_ok.mpr ⟨P, hP, .inl ⟨st, hst, rfl⟩⟩

/-- After the last stage the cell is sampled (42_animator_engine.md R124). -/
theorem endStage_of_last_stage (hP : prog a.cur = some P) (hlast : stageAt P (a.stg.toNat + 1) = none) :
    endStage prog code3 v a = sampleAnim prog code3 v a := by
  simp only [endStage, hP, hlast]

/-- A cell value without a program stops either kind of sample. -/
theorem stepAnim_refused_of_samplesNow {tick : Bool} (hsample : SamplesNow prog tick a) (hv : prog v = none) :
    stepAnim prog code3 v tick a = .error code3 :=
  (stepAnim_of_samplesNow hsample).trans (sampleAnim_of_no_program hv)

end

/-! ## The conditional writes of the rules -/

/-- Writing a pin's own bit back changes nothing, so a condition on the bit to be written does not matter. -/
theorem setPin_of_litOf {l : Pins} {r : Role} {v : Bool} (h : litOf l r = v) : setPin l r v = l := by
  rw [← h]
  cases r <;> rfl

/-- "If lit, make it dark" leaves the pin dark. -/
theorem runActions_darkenIfLit (r : Role) (rest : Actions) (l : Pins) :
    runActions (.ifLit r (.setDark r .done) rest) l = runActions rest (setPin l r false) := by
  cases hr : litOf l r with
  | true => simp [hr]
  | false => simp [hr, setPin_of_litOf hr]

/-- The stage that shows a steady colour on pin `r`: a lit `r` is left with everything else, and otherwise `q` goes
dark and `r` lit. -/
theorem runActions_showUnlessLit (r q : Role) (l : Pins) :
    runActions (.ifDark r (.ifLit q (.setDark q .done) (.setLit r .done)) .done) l =
      if litOf l r then l else setPin (setPin l q false) r true := by
  rw [runActions_ifDark, runActions_darkenIfLit, runActions_setLit, runActions_done, runActions_done]

/-! ## The node programs -/

theorem nodeProgram_normal (p : Params) (c : Cfg) : nodeProgram p c .normal = some (nodeNormalProgram c) := rfl

theorem nodeProgram_error (p : Params) (c : Cfg) : nodeProgram p c .error = some (nodeErrorProgram c) := rfl

theorem nodeProgram_sync (p : Params) (c : Cfg) : nodeProgram p c .sync = some (nodeSyncProgram p) := rfl

theorem nodeProgram_code3 (p : Params) (c : Cfg) : nodeProgram p c .code3 = none := rfl

/-- R140. -/
theorem nodeNormalProgram_pins (c : Cfg) (l : Pins) :
    runActions (nodeNormalProgram c).first.actions l =
      if l.norm then l else { norm := true, err := false, aux := l.aux } :=
  runActions_showUnlessLit .norm .err l

/-- R141. -/
theorem nodeErrorProgram_pins (c : Cfg) (l : Pins) :
    runActions (nodeErrorProgram c).first.actions l =
      if l.err then l else { norm := false, err := true, aux := l.aux } :=
  runActions_showUnlessLit .err .norm l

/-- R142, the stage with `aux` lit. -/
theorem nodeSyncProgram_pins (p : Params) (l : Pins) :
    runActions (nodeSyncProgram p).first.actions l = { norm := false, err := false, aux := true } := by
  rw [nodeSyncProgram, runActions_darkenIfLit, runActions_darkenIfLit, runActions_setLit, runActions_done]
  rfl

/-- R142, the stage with `aux` dark, which starts at the end of the first. -/
theorem endStage_nodeSync_first {p : Params} {c : Cfg} {a : Anim NodeSt} (hcur : a.cur = .sync) (hstg : a.stg = 0#4)
    (v : NodeSt) :
    endStage (nodeProgram p c) .nodeCode3 v a =
      .ok { ph := .wait, cur := .sync, stg := 1#4, tmr := tSlow p, lit := { a.lit with aux := false } } := by
  have hP : nodeProgram p c a.cur = some (nodeSyncProgram p) := by rw [hcur, nodeProgram_sync]
  have hst : stageAt (nodeSyncProgram p) (a.stg.toNat + 1) =
      some { actions := .setDark .aux .done, wait := tSlow p } := by rw [hstg]; rfl
  rw [endStage_of_next_stage hP hst, startStage, runActions_setDark, runActions_done, hcur, hstg]
  rfl

/-- Normal and Error have one stage and Sync has two, so these places are the last of their programs. -/
theorem node_in_last_stage {p : Params} {c : Cfg} {a : Anim NodeSt}
    (h : a.cur = .normal ∨ a.cur = .error ∨ (a.cur = .sync ∧ a.stg = 1#4)) :
    ∃ P, nodeProgram p c a.cur = some P ∧ stageAt P (a.stg.toNat + 1) = none := by
  rcases h with hcur | hcur | ⟨hcur, hstg⟩
  · exact ⟨nodeNormalProgram c, by rw [hcur, nodeProgram_normal], rfl⟩
  · exact ⟨nodeErrorProgram c, by rw [hcur, nodeProgram_error], rfl⟩
  · exact ⟨nodeSyncProgram p, by rw [hcur, nodeProgram_sync], by rw [hstg]; rfl⟩

/-- Settles O30. A sample runs the pins of the sampled value's first stage. -/
theorem nodeProgramsDrivePins : Obligations.NodeProgramsDrivePins := by
  intro p c a
  refine ⟨?normal, ?error, ?sync, fun hcur hstg => endStage_nodeSync_first hcur hstg, fun hlast v => ?last⟩
  case normal =>
    rw [sampleAnim_of_program (nodeProgram_normal p c), nodeNormalProgram_pins]
    rfl
  case error =>
    rw [sampleAnim_of_program (nodeProgram_error p c), nodeErrorProgram_pins]
    rfl
  case sync =>
    rw [sampleAnim_of_program (nodeProgram_sync p c), nodeSyncProgram_pins]
    rfl
  case last =>
    obtain ⟨P, hP, hnone⟩ := node_in_last_stage hlast
    exact endStage_of_last_stage hP hnone

/-! ## Code 3 -/

theorem storProgram_code3 (p : Params) (c : Cfg) : storProgram p c .code3 = none := rfl

/-- Whatever the port is. -/
theorem netProgram_code3 (p : Params) (c : Cfg) {v : NetCell} (h : v.st = .code3) : netProgram p c v = none := by
  simp only [netProgram, h]

/-- A step in which `RunStep` holds is a cycle of the agents (46_orchestrator.md R174). -/
theorem step_of_runStep {s : State} (hrun : runStep (nextInput s) s = true)
    (hcfg : cfgChanges (nextInput s) s = false) : step s = runCycle (nextInput s) (takeInput s) := by
  obtain ⟨hrst, hmode, hio, hshut⟩ := runStep_eq_true_iff.mp hrun
  have hkeeps : cfgChanges (nextInput s) (takeInput s) = false := hcfg
  simp [step, clockCycle, sysRun, hrst, hkeeps, hmode, hio, hshut]

/-- There is no fault, so an operation that answers no next state is refused. -/
theorem refused_of_ne_next {r : Result} (h : ∀ t, r ≠ .next t) : ∃ x, r = .refused x := by
  cases r with
  | next t => exact absurd rfl (h t)
  | fault x => nomatch x
  | refused x => exact ⟨x, rfl⟩

/-- One refused animator refuses the cycle, which then leaves no other agent's writes either. -/
theorem runCycle_refused_of_animator {inp : CycleIn} {s : State} {x : Refusal}
    (h : stepNode inp.tick s = .error x ∨ stepNet inp.tick s = .error x ∨ stepStor inp.tick s = .error x) :
    ∃ r, runCycle inp s = .refused r := by
  refine refused_of_ne_next fun t hnext => ?_
  obtain ⟨a, n, r, hnode, hnet, hstor, -⟩ := runCycle_eq_next.mp hnext
  rcases h with hx | hx | hx
  · cases hnode.symm.trans hx
  · cases hnet.symm.trans hx
  · cases hstor.symm.trans hx

/-- Settles O34. The three animators step from the cells as they stand at the start of the cycle, so one that samples
code 3 is refused, and with it the cycle. -/
theorem codeThreeSampleIsRefused : Obligations.CodeThreeSampleIsRefused := by
  intro s hrun hcfg hsamples
  rw [step_of_runStep hrun hcfg]
  rcases hsamples with ⟨hsample, hcode⟩ | ⟨hsample, hcode⟩ | ⟨hsample, hcode⟩
  case inl =>
    have hnone : nodeProgram s.params s.cfg s.nodeSt = none := hcode ▸ nodeProgram_code3 s.params s.cfg
    exact runCycle_refused_of_animator (.inl (stepAnim_refused_of_samplesNow hsample hnone))
  case inr.inl =>
    have hnone : netProgram s.params s.cfg s.netCell = none := netProgram_code3 s.params s.cfg hcode
    exact runCycle_refused_of_animator (.inr (.inl (stepAnim_refused_of_samplesNow hsample hnone)))
  case inr.inr =>
    have hnone : storProgram s.params s.cfg s.storSt = none := hcode ▸ storProgram_code3 s.params s.cfg
    exact runCycle_refused_of_animator (.inr (.inr (stepAnim_refused_of_samplesNow hsample hnone)))

end Sys2Proof.Machine
end

section
/-! The network animator (44_network_animator.md): what its samples and stages do to the pins in Normal, in Recovering
and in Error with a bad port (R150, R152, R153), and the blink program of Error with a port in 1..4 (R151). -/

namespace Sys2Proof.Machine

/-! ## The program of each network state -/

section
variable (p : Params) (c : Cfg) {v : NetCell}

theorem netProgram_normal (h : v.st = .normal) : netProgram p c v = some (netNormalProgram c) := by
  simp only [netProgram, h]

theorem netProgram_recovering (h : v.st = .recovering) : netProgram p c v = some (netRecoveringProgram p) := by
  simp only [netProgram, h]

theorem netProgram_error (h : v.st = .error) (hport : 1 ≤ v.port.toNat ∧ v.port.toNat ≤ 4) :
    netProgram p c v = some (netErrorProgram p c v.port.toNat) := by
  simp only [netProgram, h, if_pos hport]

theorem netProgram_badPort (h : v.st = .error) (hport : v.port.toNat = 0 ∨ 5 ≤ v.port.toNat) :
    netProgram p c v = some (netBadPortProgram p) := by
  have hbad : ¬(1 ≤ v.port.toNat ∧ v.port.toNat ≤ 4) := by omega
  simp only [netProgram, h, if_neg hbad]

end

/-! ## Normal, Recovering and Error with a bad port -/

/-- "If dark, light it" leaves the pin lit. -/
theorem runActions_lightIfDark (r : Role) (rest : Actions) (l : Pins) :
    runActions (.ifDark r (.setLit r .done) rest) l = runActions rest (setPin l r true) := by
  cases hr : litOf l r with
  | true => simp [hr, setPin_of_litOf hr]
  | false => simp [hr]

/-- R150. -/
theorem netNormalProgram_pins (c : Cfg) (l : Pins) :
    runActions (netNormalProgram c).first.actions l = { l with norm := true } := by
  rw [netNormalProgram, runActions_lightIfDark, runActions_done]
  rfl

/-- R152. -/
theorem netBadPortProgram_pins (p : Params) (l : Pins) :
    runActions (netBadPortProgram p).first.actions l = { l with norm := false } := by
  rw [netBadPortProgram, runActions_darkenIfLit, runActions_done]
  rfl

/-- R153, the stage with `aux` lit. -/
theorem netRecoveringProgram_pins (p : Params) (l : Pins) :
    runActions (netRecoveringProgram p).first.actions l = { l with norm := false, aux := true } := by
  rw [netRecoveringProgram, runActions_darkenIfLit, runActions_setLit, runActions_done]
  rfl

/-- R153, the stage with `aux` dark, which starts at the end of the first. -/
theorem endStage_netRecovering_first {p : Params} {c : Cfg} {a : Anim NetCell} (hcur : a.cur.st = .recovering)
    (hstg : a.stg = 0#4) (v : NetCell) :
    endStage (netProgram p c) .netCode3 v a =
      .ok { a with ph := .wait, stg := 1#4, tmr := tSlow p, lit := { a.lit with aux := false } } := by
  have hst : stageAt (netRecoveringProgram p) (a.stg.toNat + 1) =
      some { actions := .setDark .aux .done, wait := tSlow p } := by rw [hstg]; rfl
  rw [endStage_of_next_stage (netProgram_recovering p c hcur) hst, startStage, runActions_setDark, runActions_done,
    hstg]
  rfl

/-- Normal and Error with a bad port have one stage and Recovering has two, so these places are the last of their
programs. -/
theorem net_in_last_stage (p : Params) (c : Cfg) {a : Anim NetCell}
    (h : a.cur.st = .normal ∨ (a.cur.st = .error ∧ (a.cur.port.toNat = 0 ∨ 5 ≤ a.cur.port.toNat)) ∨
      (a.cur.st = .recovering ∧ a.stg = 1#4)) :
    ∃ P, netProgram p c a.cur = some P ∧ stageAt P (a.stg.toNat + 1) = none := by
  rcases h with hcur | ⟨hcur, hport⟩ | ⟨hcur, hstg⟩
  · exact ⟨netNormalProgram c, netProgram_normal p c hcur, rfl⟩
  · exact ⟨netBadPortProgram p, netProgram_badPort p c hcur hport, rfl⟩
  · exact ⟨netRecoveringProgram p, netProgram_recovering p c hcur, by rw [hstg]; rfl⟩

/-- Settles O32. A sample runs the pins of the sampled value's first stage. -/
theorem networkSteadyProgramsDrivePins : Obligations.NetworkSteadyProgramsDrivePins := by
  intro p c port a
  refine ⟨?normal, ?recovering, fun hport => ?badPort,
    fun hcur hstg => endStage_netRecovering_first hcur hstg, fun hlast v => ?last⟩
  case normal =>
    rw [sampleAnim_of_program (netProgram_normal p c rfl), netNormalProgram_pins]
    rfl
  case recovering =>
    rw [sampleAnim_of_program (netProgram_recovering p c rfl), netRecoveringProgram_pins]
    rfl
  case badPort =>
    rw [sampleAnim_of_program (netProgram_badPort p c rfl hport), netBadPortProgram_pins]
    rfl
  case last =>
    obtain ⟨P, hP, hnone⟩ := net_in_last_stage p c hlast
    exact endStage_of_last_stage hP hnone

/-! ## Error with a port in 1..4 -/

/-- Stage `i` of NET.ERROR(n) where `1 ≤ i < 2n`: `err` is lit if `i` is even and dark if it is odd, for `T_FAST`
(`stageAt_netErrorProgram_blink`). -/
def blinkStage (p : Params) (i : Nat) : Stage :=
  { actions := if i % 2 = 0 then .setLit .err .done else .setDark .err .done, wait := tFast p }

section
variable (p : Params) (c : Cfg)

theorem blinkStage_add_two (i : Nat) : blinkStage p (i + 2) = blinkStage p i := by
  simp only [blinkStage, Nat.add_mod_right]

theorem blinkStage_pins (i : Nat) (l : Pins) :
    runActions (blinkStage p i).actions l = { l with err := decide (i % 2 = 0) } := by
  by_cases heven : i % 2 = 0
  · simp only [blinkStage, heven, if_true, runActions_setLit, runActions_done, decide_true]
    rfl
  · simp only [blinkStage, heven, if_false, runActions_setDark, runActions_done, decide_false]
    rfl

/-- One blink more is one dark and one lit stage more, in front. -/
theorem blinkStages_add_two (n : Nat) :
    blinkStages p (n + 2) = blinkStage p 1 :: blinkStage p 2 :: blinkStages p (n + 1) := rfl

theorem blinkStages_length (n : Nat) : (blinkStages p (n + 1)).length = 2 * n + 1 := by
  induction n with
  | zero => rfl
  | succ n ih => rw [blinkStages_add_two, List.length_cons, List.length_cons, ih]; omega

/-- By induction on the blinks: two stages on, it is one blink less. -/
theorem blinkStages_getElem? {n i : Nat} (hi : i < 2 * n + 1) :
    (blinkStages p (n + 1))[i]? = some (blinkStage p (i + 1)) := by
  induction n generalizing i with
  | zero =>
    obtain rfl : i = 0 := by omega
    rfl
  | succ n ih =>
    rw [blinkStages_add_two]
    match i with
    | 0 => rfl
    | 1 => rfl
    | i + 2 =>
      rw [List.getElem?_cons_succ, List.getElem?_cons_succ, ih (by omega), Nat.add_right_comm i 2 1,
        blinkStage_add_two]

theorem blinkStages_totalWait (n : Nat) :
    ((blinkStages p (n + 1)).map (fun st => st.wait)).sum = (2 * n + 1) * tFast p := by
  have hwait : ∀ w ∈ (blinkStages p (n + 1)).map (fun st => st.wait), w = tFast p := by
    intro w hw
    obtain ⟨st, hst, rfl⟩ := List.mem_map.mp hw
    exact blinkStages_wait hst
  rw [List.sum_eq_card_nsmul _ _ hwait, List.length_map, blinkStages_length, smul_eq_mul]

theorem netErrorProgram_length (n : Nat) : (stagesOf (netErrorProgram p c (n + 1))).length = 2 * (n + 1) + 1 := by
  rw [stagesOf, netErrorProgram, List.length_cons, List.length_append, blinkStages_length, List.length_singleton]
  omega

theorem netErrorProgram_totalWait (n : Nat) :
    totalWait (netErrorProgram p c (n + 1)) = 2 * (n + 1) * tFast p + c.tIntNet := by
  calc totalWait (netErrorProgram p c (n + 1))
      = tFast p + ((2 * n + 1) * tFast p + c.tIntNet) := by
        simp only [totalWait, stagesOf, netErrorProgram, List.map_cons, List.map_append, List.map_nil, List.sum_cons,
          List.sum_append, List.sum_nil, blinkStages_totalWait, Nat.add_zero]
    _ = 2 * (n + 1) * tFast p + c.tIntNet := by ring

/-- Stage 0 shows the first blink: `norm` goes dark and `err` lit. -/
theorem netErrorProgram_first_pins (n : Nat) (l : Pins) :
    runActions (netErrorProgram p c n).first.actions l = { norm := false, err := true, aux := l.aux } := by
  rw [netErrorProgram, runActions_darkenIfLit, runActions_setLit, runActions_done]
  rfl

theorem stageAt_netErrorProgram_blink {n i : Nat} (hi : i < 2 * n + 1) :
    stageAt (netErrorProgram p c (n + 1)) (i + 1) = some (blinkStage p (i + 1)) := by
  have hlen : i < (blinkStages p (n + 1)).length := by rw [blinkStages_length]; exact hi
  rw [stageAt, stagesOf, netErrorProgram, List.getElem?_cons_succ, List.getElem?_append_left hlen,
    blinkStages_getElem? p hi]

/-- The stages before the last, stage 0 among them: `T_FAST` each, `err` lit in the even ones. -/
theorem netErrorProgram_blinks {n i : Nat} (hi : i < 2 * (n + 1)) :
    ∃ st, stageAt (netErrorProgram p c (n + 1)) i = some st ∧ st.wait = tFast p ∧
      ∀ l, runActions st.actions l =
        { norm := if i = 0 then false else l.norm, err := decide (i % 2 = 0), aux := l.aux } := by
  cases i with
  | zero => exact ⟨(netErrorProgram p c (n + 1)).first, rfl, rfl, netErrorProgram_first_pins p c (n + 1)⟩
  | succ i => exact ⟨_, stageAt_netErrorProgram_blink p c (by omega), rfl, blinkStage_pins p (i + 1)⟩

/-- After the blinks comes the wait of `T_INT_NET`, without an action. -/
theorem stageAt_netErrorProgram_last (n : Nat) :
    stageAt (netErrorProgram p c (n + 1)) (2 * (n + 1)) = some { actions := .done, wait := c.tIntNet } := by
  have hlast : 2 * (n + 1) = (blinkStages p (n + 1)).length + 1 := by rw [blinkStages_length]; rfl
  rw [hlast, stageAt, stagesOf, netErrorProgram, List.getElem?_cons_succ, List.getElem?_concat_length]

end

/-- Settles O33. A port in 1..4 is `n + 1`, and the program of `n + 1` blinks has been counted and walked through for
every `n`. -/
theorem networkErrorBlinksPortTimes : Obligations.NetworkErrorBlinksPortTimes := by
  intro p c port hlow hhigh
  have hprogram : netProgram p c { st := .error, port := port } = some (netErrorProgram p c port.toNat) :=
    netProgram_error p c rfl ⟨hlow, hhigh⟩
  obtain ⟨n, hn⟩ : ∃ n, port.toNat = n + 1 := ⟨port.toNat - 1, by omega⟩
  rw [hn] at hprogram ⊢
  exact ⟨netErrorProgram p c (n + 1), hprogram, netErrorProgram_length p c n, netErrorProgram_totalWait p c n,
    fun _ hi => netErrorProgram_blinks p c hi, _, stageAt_netErrorProgram_last p c n, rfl, runActions_done⟩

end Sys2Proof.Machine
end

section
/-! The storage animator (45_storage_animator.md): its programs are the node's with Recovering for Sync and
`T_INT_STOR` for `T_INT_NODE`, so they do to the pins (R160 to R162) what the node's do (43_node_animator.md R140 to
R142). -/

namespace Sys2Proof.Machine

/-! ## The node animator's shape -/

/-- The node state whose part a storage state plays. -/
def storStAsNode : StorSt → NodeSt
  | .normal => .normal
  | .recovering => .sync
  | .error => .error
  | .code3 => .code3

/-- The configuration whose node interval is `c`'s storage interval. -/
def storCfgAsNode (c : Cfg) : Cfg := { c with tIntNode := c.tIntStor }

section
variable (p : Params) (c : Cfg)

/-- "Identical shape to the Node animator with states Normal/Error/Recovering" (45_storage_animator.md). -/
theorem storProgram_eq_nodeProgram (v : StorSt) :
    storProgram p c v = nodeProgram p (storCfgAsNode c) (storStAsNode v) := by
  cases v <;> rfl

theorem storProgram_normal : storProgram p c .normal = some (nodeNormalProgram (storCfgAsNode c)) :=
  storProgram_eq_nodeProgram p c .normal

theorem storProgram_error : storProgram p c .error = some (nodeErrorProgram (storCfgAsNode c)) :=
  storProgram_eq_nodeProgram p c .error

/-- No configured interval is in it (R162). -/
theorem storProgram_recovering : storProgram p c .recovering = some (nodeSyncProgram p) :=
  storProgram_eq_nodeProgram p c .recovering

/-- R162, the stage with `aux` dark, which starts at the end of the first. -/
theorem endStage_storRecovering_first {a : Anim StorSt} (hcur : a.cur = .recovering) (hstg : a.stg = 0#4)
    (v : StorSt) :
    endStage (storProgram p c) .storCode3 v a =
      .ok { ph := .wait, cur := .recovering, stg := 1#4, tmr := tSlow p, lit := { a.lit with aux := false } } := by
  have hP : storProgram p c a.cur = some (nodeSyncProgram p) := by rw [hcur, storProgram_recovering]
  have hst : stageAt (nodeSyncProgram p) (a.stg.toNat + 1) =
      some { actions := .setDark .aux .done, wait := tSlow p } := by rw [hstg]; rfl
  rw [endStage_of_next_stage hP hst, startStage, runActions_setDark, runActions_done, hcur, hstg]
  rfl

/-- The last stages of the node's programs (`node_in_last_stage`), named by the storage states. -/
theorem stor_in_last_stage {a : Anim StorSt}
    (h : a.cur = .normal ∨ a.cur = .error ∨ (a.cur = .recovering ∧ a.stg = 1#4)) :
    ∃ P, storProgram p c a.cur = some P ∧ stageAt P (a.stg.toNat + 1) = none := by
  rw [storProgram_eq_nodeProgram]
  refine node_in_last_stage
    (a := { ph := a.ph, cur := storStAsNode a.cur, stg := a.stg, tmr := a.tmr, lit := a.lit }) ?_
  rcases h with hcur | hcur | ⟨hcur, hstg⟩
  · exact .inl (congrArg storStAsNode hcur)
  · exact .inr (.inl (congrArg storStAsNode hcur))
  · exact .inr (.inr ⟨congrArg storStAsNode hcur, hstg⟩)

end

/-- Settles O31. A sample runs the pins of the sampled value's first stage, which are the node's. -/
theorem storageProgramsDrivePins : Obligations.StorageProgramsDrivePins := by
  intro p c a
  refine ⟨?normal, ?error, ?recovering, fun hcur hstg => endStage_storRecovering_first p c hcur hstg,
    fun hlast v => ?last⟩
  case normal =>
    rw [sampleAnim_of_program (storProgram_normal p c), nodeNormalProgram_pins]
    rfl
  case error =>
    rw [sampleAnim_of_program (storProgram_error p c), nodeErrorProgram_pins]
    rfl
  case recovering =>
    rw [sampleAnim_of_program (storProgram_recovering p c), nodeSyncProgram_pins]
    rfl
  case last =>
    obtain ⟨P, hP, hnone⟩ := stor_in_last_stage p c hlast
    exact endStage_of_last_stage hP hnone

end Sys2Proof.Machine
end

section
/-! The orchestrator (46_orchestrator.md): the check of the configuration (R170, R171), the events that halt the block and
the cycles of HALT (R172, R173), the cycles in which the agents step (R174), and the output multiplexer (R175, R176). -/

namespace Sys2Proof.Machine

/-! ## The configuration check -/

theorem intervalOk_eq_true_iff {p : Params} {t : Nat} : intervalOk p t = true ↔ 1 ≤ t ∧ t ≤ 2 ^ tmrWidth p - 1 :=
  decide_eq_true_iff

/-- The three conditions of R170. -/
theorem cfgOk_eq_true_iff {p : Params} {c : Cfg} :
    cfgOk p c = true ↔ (∀ q ∈ pinList c, q < p.numGpio) ∧ (pinList c).Nodup ∧
      intervalOk p c.tIntNode = true ∧ intervalOk p c.tIntNet = true ∧ intervalOk p c.tIntStor = true := by
  simp only [cfgOk, Bool.and_eq_true, List.all_eq_true, decide_eq_true_iff, and_assoc]

/-- Settles O40. `pinList` lists the nine pins, and a list is without duplicates if its members differ pairwise. -/
theorem cfgOkMeansValidConfiguration : Obligations.CfgOkMeansValidConfiguration := by
  intro p c
  rw [cfgOk_eq_true_iff, intervalOk_eq_true_iff, intervalOk_eq_true_iff, intervalOk_eq_true_iff]
  exact Iff.rfl

theorem sysCheck_of_cfgOk {s : State} (h : cfgOk s.params s.cfg = true) : sysCheck s = { s with mode := .run } :=
  if_pos h

theorem sysCheck_of_not_cfgOk {s : State} (h : cfgOk s.params s.cfg = false) : sysCheck s = raiseHalt .configError s :=
  if_neg (Bool.eq_false_iff.mp h)

/-! ## A step in each mode, without reset and with the configuration unchanged -/

@[simp] theorem cfgChanges_takeInput (inp : CycleIn) (s : State) : cfgChanges inp (takeInput s) = cfgChanges inp s := rfl

theorem step_of_check {s : State} (hrst : (nextInput s).rst = false) (hcfg : cfgChanges (nextInput s) s = false)
    (hmode : s.mode = .check) : step s = .next (sysCheck (takeInput s)) := by
  simp [step, clockCycle, hrst, hcfg, hmode]

theorem step_of_run {s : State} (hrst : (nextInput s).rst = false) (hcfg : cfgChanges (nextInput s) s = false)
    (hmode : s.mode = .run) : step s = sysRun (nextInput s) (takeInput s) := by
  simp [step, clockCycle, hrst, hcfg, hmode]

/-- Settles O41. The check reads the parameters and the configuration alone, which taking the inputs off the stimulus
leaves. -/
theorem checkCycleDecidesMode : Obligations.CheckCycleDecidesMode := by
  intro s hmode hrst hcfg
  rw [step_of_check hrst hcfg hmode]
  refine ⟨fun hok => ?valid, fun hbad => ?invalid⟩
  case valid => rw [sysCheck_of_cfgOk (s := takeInput s) hok]; rfl
  case invalid => rw [sysCheck_of_not_cfgOk (s := takeInput s) hbad]; rfl

/-! ## Halting -/

theorem sysRun_of_ioErr {inp : CycleIn} (hio : inp.ioErr = true) (s : State) :
    sysRun inp s = .next (raiseHalt .ioError s) :=
  if_pos hio

theorem sysRun_of_shutdown {inp : CycleIn} (hio : inp.ioErr = false) (hshut : inp.shutdown = true) (s : State) :
    sysRun inp s = .next (raiseHalt .shutdown s) := by
  simp only [sysRun, hio, hshut, Bool.false_eq_true, if_false, if_true]

/-- Settles O42. Either event is a halt entry in place of the agents' cycle. -/
theorem haltEventWritesModeAndCauseOnly : Obligations.HaltEventWritesModeAndCauseOnly := by
  intro s hmode hrst hcfg
  rw [step_of_run hrst hcfg hmode]
  exact ⟨fun hio => sysRun_of_ioErr hio (takeInput s), fun hio hshut => sysRun_of_shutdown hio hshut (takeInput s)⟩

/-- Settles O43. The induction on the number of cycles is `run_of_halt`. -/
theorem haltIsLeftByResetOnly : Obligations.HaltIsLeftByResetOnly :=
  fun _ _ hmode hinputs => run_of_halt hmode hinputs

/-! ## The cycles in which the agents step -/

/-- Settles O44. That nothing steps outside `RunStep` is what the decoder's and the animators' own statements say of such
a cycle. -/
theorem runStepGatesTheAgents : Obligations.RunStepGatesTheAgents := by
  intro s
  refine ⟨runStep_eq_true_iff, step_of_runStep, fun t houtside hrst hstep => ?outside⟩
  case outside =>
    obtain ⟨-, hdecoder⟩ := decoderIdlesWithoutByte
    obtain ⟨hanimators, -⟩ := animatorsFreezeOutsideRunStep
    exact ⟨hdecoder s t hstep hrst (.inr houtside), hanimators s t hstep hrst houtside⟩

/-! ## The output multiplexer -/

theorem lookup_of_mem_of_nodup_keys {l : List (Nat × Bool)} {e : Nat × Bool} (hkeys : (l.map Prod.fst).Nodup)
    (he : e ∈ l) : l.lookup e.1 = some e.2 := by
  obtain ⟨front, back, rfl⟩ := List.append_of_mem he
  rw [List.map_append, List.map_cons, List.nodup_append] at hkeys
  obtain ⟨-, -, hdisjoint⟩ := hkeys
  refine List.lookup_eq_some_iff.mpr ⟨front, back, rfl, fun p hp => ?_⟩
  have hne : p.1 ≠ e.1 := hdisjoint p.1 (List.mem_map_of_mem hp) e.1 List.mem_cons_self
  exact bne_iff_ne.mpr hne.symm

theorem pinMap_keys (s : State) : (pinMap s).map Prod.fst = pinList s.cfg := rfl

/-- Distinct pins, as the check requires, make the role of each configured pin unique (R170 item 2). -/
theorem litAt_of_mem_pinMap {s : State} (hpins : (pinList s.cfg).Nodup) {e : Nat × Bool} (he : e ∈ pinMap s) :
    litAt s e.1 = some e.2 :=
  lookup_of_mem_of_nodup_keys hpins he

theorem litAt_of_not_mem_pinList {s : State} {q : Nat} (hq : q ∉ pinList s.cfg) : litAt s q = none := by
  refine List.lookup_eq_none_iff.mpr fun e he => bne_iff_ne.mpr fun heq => hq ?_
  rw [heq, ← pinMap_keys]
  exact List.mem_map_of_mem he

theorem gpio_of_litAt_some {s : State} {q : Nat} {lit : Bool} (hmode : s.mode = .run) (hlit : litAt s q = some lit) :
    gpioOe s q = true ∧ gpioO s q = levelOf s.cfg lit := by
  simp [gpioOe, gpioO, hmode, hlit]

theorem gpio_outside_run {s : State} (hmode : s.mode ≠ .run) (q : Nat) : gpioOe s q = false ∧ gpioO s q = false := by
  refine ⟨by simp [gpioOe, hmode], ?_⟩
  unfold gpioO
  split
  · next hrun => exact absurd hrun hmode
  all_goals rfl

theorem gpio_of_litAt_none {s : State} {q : Nat} (hlit : litAt s q = none) :
    gpioOe s q = false ∧ gpioO s q = false := by
  by_cases hmode : s.mode = .run
  · simp [gpioOe, gpioO, hmode, hlit]
  · exact gpio_outside_run hmode q

/-- Settles O49. `pinMap` lists the nine pins with their bits; the check keeps the pins apart, so that each shows its
own bit, and a pin outside the list has none. -/
theorem pinOutputsFollowLit : Obligations.PinOutputsFollowLit := by
  refine fun s => ⟨fun hmode hok => ⟨fun e he => ?configured, fun q hq => ?unconfigured⟩, gpio_outside_run⟩
  case configured =>
    obtain ⟨-, hpins, -⟩ := cfgOk_eq_true_iff.mp hok
    exact gpio_of_litAt_some hmode (litAt_of_mem_pinMap hpins he)
  case unconfigured => exact gpio_of_litAt_none (litAt_of_not_mem_pinList hq)

end Sys2Proof.Machine
end

section
/-! The recoverable events (60_exceptions.md R191): the registers that one byte can write, in a frame that is accepted
(EV3 among its segments) and in every other case (EV1, EV2 and the bytes that raise no event). -/

namespace Sys2Proof.Machine

/-! ## What one byte can write -/

/-- `Apply(c)` as one update of every state: unlike `applyControl_eq_next` this leaves open what `CNT_UNDEF` becomes, so
it needs no counter to fit its width (R100). -/
theorem applyControl_eq_next_cells (c : Byte) (s : State) :
    ∃ undef, applyControl c s =
      .next { s with
        nodeSt := (nodeValue c).getD s.nodeSt
        storSt := (storageValue c).getD s.storSt
        netCell := (networkValue c).getD s.netCell
        cntUndef := undef } := by
  obtain ⟨t, happly, hparams, hcfg, hstim, hmode, hcause, hdec, hlatch, hsync, hcsum, hok, hnode, hnet, hstor,
    hnodeSt, hstorSt, hnetCell, -⟩ := applyControl_eq c s
  refine ⟨t.cntUndef, ?_⟩
  rw [happly, ← hnodeSt, ← hstorSt, ← hnetCell, ← hparams, ← hcfg, ← hstim, ← hmode, ← hcause, ← hdec, ← hlatch,
    ← hsync, ← hcsum, ← hok, ← hnode, ← hnet, ← hstor]

/-- The byte that accepts a frame writes the cells of the defined segments, `CNT_OK`, `CNT_UNDEF` and `DEC_ST`, and
nothing else (40_frame_decoder.md R86). -/
theorem decodeByte_of_accepted {b : Byte} {s : State} (hs : s.decSt = .csum) (hb : b = expectedCrc s.ctrlLatch) :
    ∃ undef, decodeByte b s =
      .next { s with
        decSt := .hunt
        nodeSt := (nodeValue s.ctrlLatch).getD s.nodeSt
        storSt := (storageValue s.ctrlLatch).getD s.storSt
        netCell := (networkValue s.ctrlLatch).getD s.netCell
        cntOk := bump s.params s.cntOk
        cntUndef := undef } := by
  obtain ⟨undef, happly⟩ := applyControl_eq_next_cells s.ctrlLatch s
  have haccept : exec (.frame s.ctrlLatch b) s = csumAccept s.ctrlLatch s := if_pos hb
  refine ⟨undef, ?_⟩
  rw [decodeByte_csum b hs rfl, haccept, csumAccept, happly]
  rfl

/-- Every other byte writes at most `DEC_ST`, the control latch, `CNT_SYNC` and `CNT_CSUM` (40_frame_decoder.md R81 to
R85, R87). -/
theorem decodeByte_of_not_accepted {b : Byte} {s : State}
    (hno : ¬ (s.decSt = .csum ∧ b = expectedCrc s.ctrlLatch)) :
    ∃ d c sync csum, decodeByte b s =
      .next { s with decSt := d, ctrlLatch := c, cntSync := sync, cntCsum := csum } := by
  rcases decodeByte_cases b s with ⟨-, -, h⟩ | ⟨-, -, h⟩ | ⟨-, -, h⟩ | ⟨-, -, h⟩ | ⟨-, h⟩ | ⟨hs, hb, -⟩ | ⟨-, -, h⟩
  · exact ⟨.h1, s.ctrlLatch, s.cntSync, s.cntCsum, h⟩
  · exact ⟨.hunt, s.ctrlLatch, bump s.params s.cntSync, s.cntCsum, h⟩
  · exact ⟨.ctrl, s.ctrlLatch, s.cntSync, s.cntCsum, h⟩
  · rw [h1Mismatch_eq] at h
    exact ⟨_, s.ctrlLatch, bump s.params s.cntSync, s.cntCsum, h⟩
  · exact ⟨.csum, b, s.cntSync, s.cntCsum, h⟩
  · exact absurd ⟨hs, hb⟩ hno
  · exact ⟨.hunt, s.ctrlLatch, s.cntSync, bump s.params s.cntCsum, h⟩

/-- Settles O19. Neither kind of update writes the mode, the cause, an animator, the configuration or the inputs, and
only an accepted frame's writes a cell, `CNT_OK` or `CNT_UNDEF`. -/
theorem recoverableEventsStayInDecoder : Obligations.RecoverableEventsStayInDecoder := by
  intro b s
  by_cases haccepted : s.decSt = .csum ∧ b = expectedCrc s.ctrlLatch
  case pos =>
    obtain ⟨hs, hb⟩ := haccepted
    obtain ⟨undef, hnext⟩ := decodeByte_of_accepted hs hb
    exact ⟨_, hnext, rfl, rfl, rfl, rfl, rfl, rfl, rfl, rfl, fun hno => absurd ⟨hs, hb⟩ hno,
      fun _ _ => ⟨rfl, rfl, rfl⟩⟩
  case neg =>
    obtain ⟨d, c, sync, csum, hnext⟩ := decodeByte_of_not_accepted haccepted
    exact ⟨_, hnext, rfl, rfl, rfl, rfl, rfl, rfl, rfl, rfl, fun _ => ⟨rfl, rfl, rfl, rfl, rfl⟩,
      fun hs hb => absurd ⟨hs, hb⟩ haccepted⟩

end Sys2Proof.Machine
end

section
/-! Reset (70_reset_and_hazards.md R210): what a cycle with `rst = 1` leaves, as one state. -/

namespace Sys2Proof.Machine

/-- The configuration inputs are the cycle's where it brings any and the machine's own where it brings none (log entry
7). -/
theorem takeCfg_eq (inp : CycleIn) (s : State) : takeCfg inp s = { s with cfg := inp.cfg.getD s.cfg } := by
  unfold takeCfg
  cases inp.cfg with
  | none => rfl
  | some c => rfl

/-- Reset wins over every other input and every mode (60_exceptions.md R193). -/
theorem clockCycle_of_rst {inp : CycleIn} (hrst : inp.rst = true) (s : State) :
    clockCycle inp s = .next (resetRegs (takeCfg inp s)) :=
  if_pos hrst

/-- A step with `rst = 1` leads to the state of the reset table, under the old parameters, with the cycle's inputs used
up. -/
theorem step_of_rst {s : State} (hrst : (nextInput s).rst = true) :
    step s = .next (State.atReset s.params ((nextInput s).cfg.getD s.cfg) s.stim.tail) := by
  rw [step, clockCycle_of_rst hrst, takeCfg_eq]
  rfl

/-- Settles O47. The successor is `State.atReset`, whose fields are R210's table. -/
theorem resetFromAnyState : Obligations.ResetFromAnyState := by
  intro s hrst
  refine ⟨_, step_of_rst hrst, ?registers⟩
  case registers =>
    exact ⟨rfl, rfl, rfl, rfl, rfl, rfl, rfl, rfl, rfl, rfl, rfl, rfl, rfl, rfl, rfl, rfl, rfl⟩

end Sys2Proof.Machine
end

section
/-! Decoding and encoding (30_encoding.md): what the decoder reads in each format, that it inverts the encoding (R60 to
R66, R73), how many control bytes are defined throughout (R74), and the codes of FRAMEF (R76). -/

namespace Sys2Proof

open Machine (header0 header1)

/-! ## What the decoder reads in each format -/

section
variable {bytes rest : List Byte} {i : Instr}

theorem decode_header0_eq_ok :
    decode .header0 bytes = .ok (i, rest) ↔ bytes = header0 :: rest ∧ i = .hdr0 := by
  match bytes with
  | [] => simp [decode]
  | b :: bs => by_cases hb : b = header0 <;> simp [decode, hb, and_comm, eq_comm]

theorem decode_header1_eq_ok :
    decode .header1 bytes = .ok (i, rest) ↔ bytes = header1 :: rest ∧ i = .hdr1 := by
  match bytes with
  | [] => simp [decode]
  | b :: bs => by_cases hb : b = header1 <;> simp [decode, hb, and_comm, eq_comm]

theorem decode_frame_eq_ok :
    decode .frame bytes = .ok (i, rest) ↔
      ∃ c k, bytes = header0 :: header1 :: c :: k :: rest ∧ i = .frame c k := by
  match bytes with
  | [] | [_] | [_, _] | [_, _, _] => simp [decode]
  | b0 :: b1 :: c :: k :: bs =>
    by_cases h0 : b0 = header0 <;> by_cases h1 : b1 = header1 <;> simp [decode, h0, h1, and_comm, eq_comm]

theorem decode_node_eq_ok :
    decode .node bytes = .ok (i, rest) ↔ ∃ c, bytes = c :: rest ∧ i = nodeRow c := by
  cases bytes <;> simp [decode, and_comm, eq_comm]

theorem decode_storage_eq_ok :
    decode .storage bytes = .ok (i, rest) ↔ ∃ c, bytes = c :: rest ∧ i = storageRow c := by
  cases bytes <;> simp [decode, and_comm, eq_comm]

theorem decode_network_eq_ok :
    decode .network bytes = .ok (i, rest) ↔ ∃ c, bytes = c :: rest ∧ i = networkRow c := by
  cases bytes <;> simp [decode, and_comm, eq_comm]

end

/-! ## Decode and encode agree -/

theorem formatOf_nodeRow (c : Byte) : formatOf (nodeRow c) = .node := by
  unfold nodeRow
  split <;> rfl

theorem formatOf_storageRow (c : Byte) : formatOf (storageRow c) = .storage := by
  unfold storageRow
  split <;> rfl

/-- Every row's encoding is a byte string its own format reads back, whatever follows it. -/
theorem decode_encode (i : Instr) (rest : List Byte) : decode (formatOf i) (encode i ++ rest) = .ok (i, rest) := by
  cases i <;> rfl

theorem map_and_fullMask (bytes : List Byte) : bytes.map (fun b => b &&& 0xFF#8) = bytes :=
  (List.map_congr_left fun _ _ => BitVec.and_allOnes).trans bytes.map_id

/-- What the decoder took is the encoding, under the mask of its format: header and frame bytes count whole, and a
control byte by the bits of its segment. -/
theorem encode_of_decode {f : Format} {bytes rest : List Byte} {i : Instr} (h : decode f bytes = .ok (i, rest)) :
    formatOf i = f ∧ ∃ used, bytes = used ++ rest ∧ used.map (fun b => b &&& formatMask f) = encode i := by
  cases f with
  | header0 =>
    obtain ⟨rfl, rfl⟩ := decode_header0_eq_ok.mp h
    exact ⟨rfl, [header0], rfl, map_and_fullMask _⟩
  | header1 =>
    obtain ⟨rfl, rfl⟩ := decode_header1_eq_ok.mp h
    exact ⟨rfl, [header1], rfl, map_and_fullMask _⟩
  | frame =>
    obtain ⟨c, k, rfl, rfl⟩ := decode_frame_eq_ok.mp h
    exact ⟨rfl, [header0, header1, c, k], rfl, map_and_fullMask _⟩
  | node =>
    obtain ⟨c, rfl, rfl⟩ := decode_node_eq_ok.mp h
    exact ⟨formatOf_nodeRow c, [c], rfl, (encode_nodeRow c).symm⟩
  | storage =>
    obtain ⟨c, rfl, rfl⟩ := decode_storage_eq_ok.mp h
    exact ⟨formatOf_storageRow c, [c], rfl, (encode_storageRow c).symm⟩
  | network =>
    obtain ⟨c, rfl, rfl⟩ := decode_network_eq_ok.mp h
    exact ⟨formatOf_networkRow c, [c], rfl, (encode_networkRow c).symm⟩

/-- Settles O1. -/
theorem decodeEncodeAgree : Obligations.DecodeEncodeAgree :=
  ⟨decode_encode, fun _ _ _ _ h => encode_of_decode h⟩

/-- Settles O2. Each word is the encoding of its instruction, and the frame word's bytes are a frame's. -/
theorem writtenWordsDecode : Obligations.WrittenWordsDecode :=
  ⟨decode_encode .hdr0 [], decode_encode .hdr1 [], rfl, decode_encode .nodeSync [], decode_encode .storError [],
    decode_encode .netErrorP3 []⟩

end Sys2Proof

namespace Sys2Proof.Machine

/-! ## The defined control bytes -/

theorem nodeBits_mem (c : Byte) : c &&& 0xC0#8 ∈ [0x00#8, 0x40#8, 0x80#8, 0xC0#8] := by
  rcases nodeRow_cases c with ⟨hc, -⟩ | ⟨hc, -⟩ | ⟨hc, -⟩ | ⟨hc, -⟩ <;> simp [hc]

theorem storageBits_mem (c : Byte) : c &&& 0x30#8 ∈ [0x00#8, 0x10#8, 0x20#8, 0x30#8] := by
  rcases storageRow_cases c with ⟨hc, -⟩ | ⟨hc, -⟩ | ⟨hc, -⟩ | ⟨hc, -⟩ <;> simp [hc]

/-- 3 node values, 3 storage values and 6 network values. -/
theorem defined_control_bytes :
    ((List.range 256).filter (fun n => undefCount (BitVec.ofNat 8 n) = 0)).length = 54 := by
  decide +kernel

/-- The other control bytes are those left of the 256. -/
theorem undefined_control_bytes :
    ((List.range 256).filter (fun n => 1 ≤ undefCount (BitVec.ofNat 8 n))).length = 202 := by
  have hsplit := List.length_eq_length_filter_add (l := List.range 256)
    (fun n => decide (undefCount (BitVec.ofNat 8 n) = 0))
  have hother : (fun n => !decide (undefCount (BitVec.ofNat 8 n) = 0)) =
      fun n => decide (1 ≤ undefCount (BitVec.ofNat 8 n)) := by
    funext n
    rw [← decide_not]
    exact decide_eq_decide.mpr Nat.one_le_iff_ne_zero.symm
  rw [hother, defined_control_bytes, List.length_range] at hsplit
  omega

/-- Settles O4. -/
theorem segmentDecodeIsTotal : Obligations.SegmentDecodeIsTotal :=
  ⟨fun c => ⟨nodeBits_mem c, storageBits_mem c, networkBits_lt c⟩,
    fun c => ⟨formatOf_nodeRow c, formatOf_storageRow c, formatOf_networkRow c⟩,
    defined_control_bytes, undefined_control_bytes⟩

/-! ## The codes of FRAMEF

A code lies in the bits of its own segment, so it can be read off the joined byte. -/

theorem nodeSegmentOf_legal {n : NodeSt} (h : nodeLegal n = true) :
    ∃ a, nodeSegmentOf n = some a ∧ nodeValue a = some n ∧ a &&& 0x30#8 = 0#8 ∧ a &&& 0x0F#8 = 0#8 := by
  cases n with
  | normal => exact ⟨0x00#8, rfl, rfl, rfl, rfl⟩
  | sync => exact ⟨0x40#8, rfl, rfl, rfl, rfl⟩
  | error => exact ⟨0xC0#8, rfl, rfl, rfl, rfl⟩
  | code3 => cases h

theorem storageSegmentOf_legal {v : StorSt} (h : storLegal v = true) :
    ∃ b, storageSegmentOf v = some b ∧ storageValue b = some v ∧ b &&& 0xC0#8 = 0#8 ∧ b &&& 0x0F#8 = 0#8 := by
  cases v with
  | normal => exact ⟨0x00#8, rfl, rfl, rfl, rfl⟩
  | recovering => exact ⟨0x10#8, rfl, rfl, rfl, rfl⟩
  | error => exact ⟨0x30#8, rfl, rfl, rfl, rfl⟩
  | code3 => cases h

/-- The six abstract network states (10_state.md R30). -/
theorem netLegal_cases {w : NetCell} (h : netLegal w = true) :
    w = ⟨.normal, 0#3⟩ ∨ w = ⟨.recovering, 0#3⟩ ∨ w = ⟨.error, 1#3⟩ ∨ w = ⟨.error, 2#3⟩ ∨ w = ⟨.error, 3#3⟩ ∨
      w = ⟨.error, 4#3⟩ := by
  obtain ⟨st, port⟩ := w
  cases st with
  | normal => exact .inl (by simpa [netLegal] using h)
  | recovering => exact .inr (.inl (by simpa [netLegal] using h))
  | error =>
    have hport : 1 ≤ port.toNat ∧ port.toNat ≤ 4 := of_decide_eq_true h
    have hcases : port = 1#3 ∨ port = 2#3 ∨ port = 3#3 ∨ port = 4#3 := by bv_omega
    simpa using hcases
  | code3 => cases h

theorem networkSegmentOf_legal {w : NetCell} (h : netLegal w = true) :
    ∃ d, networkSegmentOf w = some d ∧ networkValue d = some w ∧ d &&& 0xC0#8 = 0#8 ∧ d &&& 0x30#8 = 0#8 := by
  rcases netLegal_cases h with rfl | rfl | rfl | rfl | rfl | rfl
  · exact ⟨0x00#8, rfl, rfl, rfl, rfl⟩
  · exact ⟨0x0F#8, rfl, rfl, rfl, rfl⟩
  · exact ⟨0x01#8, rfl, rfl, rfl, rfl⟩
  · exact ⟨0x02#8, rfl, rfl, rfl, rfl⟩
  · exact ⟨0x04#8, rfl, rfl, rfl, rfl⟩
  · exact ⟨0x08#8, rfl, rfl, rfl, rfl⟩

/-- Settles O21. Under each segment's mask the joined byte is that segment's code. -/
theorem framefCodesInvertTables : Obligations.FramefCodesInvertTables := by
  intro n v w hn hv hw
  obtain ⟨a, ha, hna, haS, haN⟩ := nodeSegmentOf_legal hn
  obtain ⟨b, hb, hsb, hbC, hbN⟩ := storageSegmentOf_legal hv
  obtain ⟨d, hd, hnd, hdC, hdS⟩ := networkSegmentOf_legal hw
  refine ⟨a ||| b ||| d, by simp only [controlOf, ha, hb, hd], ?node, ?storage, ?network⟩
  case node =>
    rw [← hna]
    exact nodeValue_eq_of_bits_eq (by simp [BitVec.and_or_distrib_right, hbC, hdC])
  case storage =>
    rw [← hsb]
    exact storageValue_eq_of_bits_eq (by simp [BitVec.and_or_distrib_right, haS, hdS])
  case network =>
    rw [← hnd]
    exact networkValue_eq_of_bits_eq (by simp [BitVec.and_or_distrib_right, haN, hbN])

end Sys2Proof.Machine
end

section
/-! The checksum (30_encoding.md R67 to R72): known values, the linearity of the CRC, and which one-bit errors of a
frame it shows (40_frame_decoder.md section 3; 95_test_vectors.md 2.1). -/

namespace Sys2Proof.Machine

/-! ## Known texts -/

/-- Settles O6. -/
theorem checksumOfKnownTexts : Obligations.ChecksumOfKnownTexts := by
  unfold Obligations.ChecksumOfKnownTexts
  decide +kernel

/-! ## The CRC is linear

Each operation of the bit-serial form commutes with `^^^`: a shift, then a byte of eight shifts, then a text. -/

theorem crcShift_xor (a b : Byte) : crcShift (a ^^^ b) = crcShift a ^^^ crcShift b := by
  unfold crcShift
  rw [BitVec.msb_xor, BitVec.shiftLeft_xor_distrib]
  cases a.msb <;> cases b.msb
  · rfl
  · exact (BitVec.xor_assoc ..)
  · simp only [Bool.xor_false, if_true, Bool.false_eq_true, if_false]
    ac_rfl
  · simp only [bne_self_eq_false, Bool.false_eq_true, if_false, if_true]
    rw [BitVec.xor_assoc, ← BitVec.xor_assoc crcPoly, BitVec.xor_comm crcPoly, BitVec.xor_assoc (b <<< 1),
      BitVec.xor_self, BitVec.xor_zero]

theorem repeat_crcShift_xor (n : Nat) (a b : Byte) :
    Nat.repeat crcShift n (a ^^^ b) = Nat.repeat crcShift n a ^^^ Nat.repeat crcShift n b := by
  induction n with
  | zero => rfl
  | succ n ih => rw [Nat.repeat, ih, crcShift_xor]; rfl

theorem crcByte_xor (a b x y : Byte) : crcByte (a ^^^ b) (x ^^^ y) = crcByte a x ^^^ crcByte b y := by
  have hswap : (a ^^^ b) ^^^ (x ^^^ y) = (a ^^^ x) ^^^ (b ^^^ y) := by ac_rfl
  rw [crcByte, hswap, repeat_crcShift_xor]
  rfl

/-- From any two registers, so that the induction on the texts goes through. -/
theorem foldl_crcByte_zipWith_xor {t u : List Byte} (hlen : t.length = u.length) (a b : Byte) :
    (List.zipWith (fun x y => x ^^^ y) t u).foldl crcByte (a ^^^ b) = t.foldl crcByte a ^^^ u.foldl crcByte b := by
  induction t generalizing u a b with
  | nil =>
    obtain rfl := List.length_eq_zero_iff.mp hlen.symm
    rfl
  | cons x t ih =>
    cases u with
    | nil => cases hlen
    | cons y u =>
      rw [List.zipWith_cons_cons, List.foldl_cons, crcByte_xor, ih (Nat.succ.inj hlen)]
      rfl

theorem crc8_eq_foldl (t : List Byte) : crc8 t = t.foldl crcByte 0#8 := BitVec.xor_zero

/-- Settles O7. The register starts at `0 = 0 ^^^ 0`. -/
theorem crcIsLinear : Obligations.CrcIsLinear := by
  intro t u hlen
  rw [crc8_eq_foldl, crc8_eq_foldl, crc8_eq_foldl]
  exact foldl_crcByte_zipWith_xor hlen 0#8 0#8

/-! ## One-bit errors -/

theorem xor_bit_ne {i : Nat} (hi : i < 8) (k : Byte) : k ^^^ (1#8 <<< i) ≠ k := by
  intro h
  have hzero : 1#8 <<< i = 0#8 := by simpa using h
  have hbit : (1#8 <<< i).getLsbD i = true := by simp [hi]
  rw [hzero] at hbit
  simp at hbit

/-- Settles O8. The flipped checksum is another byte than the expected one, so the frame is dropped. -/
theorem oneBitChecksumErrorIsDropped : Obligations.OneBitChecksumErrorIsDropped :=
  fun c _ s hi => exec_frame_unexpected (xor_bit_ne hi (expectedCrc c)) s

/-- The header's bytes stand at the front of every text, so they are checksummed once. -/
theorem headerText_crc : (dec header0 ++ dec header1).foldl crcByte 0#8 = 0x20#8 := by
  decide +kernel

theorem expectedCrc_eq_foldl (c : Byte) : expectedCrc c = (dec c).foldl crcByte 0x20#8 := by
  rw [expectedCrc, crc8_eq_foldl, text, textOf, List.foldl_append, headerText_crc]

/-- Eight shifts at once: `x ^ 8 = x ^ 2 + x + 1` modulo the polynomial, first for the two bits that the product by
`x ^ 2` and by `x` shifts out, then for the byte. -/
def crcEightShifts (y : Byte) : Byte :=
  let folded := y ^^^ (y >>> 6) ^^^ (y >>> 7)
  folded ^^^ (folded <<< 1) ^^^ (folded <<< 2)

theorem repeat_crcShift_eight : ∀ y : Byte, Nat.repeat crcShift 8 y = crcEightShifts y := by
  decide +kernel

theorem crcByte_eq_eightShifts : crcByte = fun crc x => crcEightShifts (crc ^^^ x) := by
  funext crc x
  exact repeat_crcShift_eight (crc ^^^ x)

/-- The comparison for every control byte and bit, with the checksum in the form that is cheap to compute. -/
theorem flipped_text_crc_eq_iff : ∀ (c : Byte) (i : Fin 8),
    (dec (c ^^^ (1#8 <<< i.val))).foldl (fun crc x => crcEightShifts (crc ^^^ x)) 0x20#8 =
        (dec c).foldl (fun crc x => crcEightShifts (crc ^^^ x)) 0x20#8 ↔
      i.val = 5 ∧ (c = 0xC4#8 ∨ c = 0xE4#8 ∨ c = 0xC5#8 ∨ c = 0xE5#8) := by
  decide +kernel

/-- Settles O9. Both texts start with the header's, so the digits of the control byte decide. -/
theorem undetectedControlBitFlips : Obligations.UndetectedControlBitFlips := by
  intro c i hi
  rw [expectedCrc_eq_foldl, expectedCrc_eq_foldl, crcByte_eq_eightShifts]
  exact flipped_text_crc_eq_iff c ⟨i, hi⟩

end Sys2Proof.Machine
end

section
/-! Accepted frames (41_segment_mapping.md R100): the three rows in turn, and a frame received twice. -/

namespace Sys2Proof.Machine

theorem exec_frame_eq_csumAccept (c : Byte) (s : State) :
    exec (.frame c (expectedCrc c)) s = csumAccept c s := if_pos rfl

/-- Apply is the three decoded instructions in turn. -/
theorem applyControl_of_rows {c : Byte} {s t u v : State} (hnode : exec (nodeRow c) s = .next t)
    (hstor : exec (storageRow c) t = .next u) (hnet : exec (networkRow c) u = .next v) :
    applyControl c s = .next v := by
  rw [← runSegment_eq_exec _ (.inl (formatOf_nodeRow c))] at hnode
  rw [← runSegment_eq_exec _ (.inr (.inl (formatOf_storageRow c)))] at hstor
  rw [← runSegment_eq_exec _ (.inr (.inr (formatOf_networkRow c)))] at hnet
  rw [applyControl, hnode, andThen_next, hstor, andThen_next, hnet]

/-- Settles O17. -/
theorem acceptRunsTheThreeRows : Obligations.AcceptRunsTheThreeRows := by
  intro c s t u v hnode hstor hnet
  rw [exec_frame_eq_csumAccept, csumAccept, applyControl_of_rows hnode hstor hnet]
  rfl

theorem getD_getD_self {α : Type} (o : Option α) (x : α) : o.getD (o.getD x) = o.getD x := by
  cases o <;> rfl

/-- Settles O20. A defined segment writes the same value again, and an undefined one writes none. -/
theorem repeatedFrameKeepsStore : Obligations.RepeatedFrameKeepsStore := by
  intro c s t u hfirst hsecond
  obtain ⟨t', ht, hnode, hstor, hnet⟩ := exec_frame_expected_cells c s
  obtain rfl : t' = t := Host.Outcome.next.inj (ht.symm.trans hfirst)
  obtain ⟨u', hu, hnode', hstor', hnet'⟩ := exec_frame_expected_cells c t'
  obtain rfl : u' = u := Host.Outcome.next.inj (hu.symm.trans hsecond)
  rw [hnode', hstor', hnet', hnode, hstor, hnet]
  exact ⟨getD_getD_self _ _, getD_getD_self _ _, getD_getD_self _ _⟩

end Sys2Proof.Machine
end

section
/-! A step of the whole machine: what a stepping cycle leaves (R174; 00_scope.md R6), that the agents do not interfere
(10_state.md R35), which instruction a byte is (log entry 6), and how the mode changes (46_orchestrator.md R171 to R173,
R180). -/

namespace Sys2Proof.Machine

/-! ## Stepping cycles -/

theorem mapNext_eq_next {f : State → State} {r : Result} {t : State} :
    mapNext f r = .next t ↔ ∃ u, r = .next u ∧ t = f u := by
  cases r <;> simp [mapNext, andThen, eq_comm]

@[simp] theorem decoderRegs_withOthers (m : Mode) (h : HaltCause) (l : List CycleIn) (c : Cfg) (a : Anim NodeSt)
    (n : Anim NetCell) (r : Anim StorSt) (s : State) : decoderRegs (withOthers m h l c a n r s) = decoderRegs s := rfl

/-- A cycle without reset that completes brings no other configuration inputs (46_orchestrator.md R180). -/
theorem cfgChanges_of_step {s t : State} (hstep : step s = .next t) (hrst : (nextInput s).rst = false) :
    cfgChanges (nextInput s) s = false := by
  rcases clockCycle_cases (step_cases hstep) with ⟨hreset, -⟩ | ⟨-, hcfg, -⟩ | ⟨-, hcfg, -⟩ | ⟨-, hcfg, -⟩ |
    ⟨-, hcfg, -⟩ | ⟨-, hcfg, -⟩
  · rw [hrst] at hreset
    contradiction
  all_goals exact hcfg

/-- A stepping cycle is the three animators' steps and the decoder's operation, each on the state at the start of the
cycle: the decoder neither reads nor writes what the animators write, and no animator what another writes. -/
theorem step_eq_next_of_runStep {s t : State} (hrun : runStep (nextInput s) s = true)
    (hcfg : cfgChanges (nextInput s) s = false) :
    step s = .next t ↔ ∃ a n r u,
      stepNode (nextInput s).tick s = .ok a ∧ stepNet (nextInput s).tick s = .ok n ∧
      stepStor (nextInput s).tick s = .ok r ∧ decoderCycle (nextInput s).rx s = .next u ∧
      t = withOthers .run s.haltCause s.stim.tail s.cfg a n r u := by
  have hmode : s.mode = .run := (runStep_eq_true_iff.mp hrun).2.1
  have hdecoder (a : Anim NodeSt) (n : Anim NetCell) (r : Anim StorSt) :
      decoderCycle (nextInput s).rx { takeInput s with node := a, net := n, stor := r } =
        mapNext (withOthers .run s.haltCause s.stim.tail s.cfg a n r) (decoderCycle (nextInput s).rx s) := by
    rw [← decoderCycle_withOthers, ← hmode]
    rfl
  rw [step_of_runStep hrun hcfg, runCycle_eq_next]
  simp only [hdecoder, mapNext_eq_next]
  constructor
  · rintro ⟨a, n, r, ha, hn, hr, u, hu, rfl⟩
    exact ⟨a, n, r, u, ha, hn, hr, hu, rfl⟩
  · rintro ⟨a, n, r, u, ha, hn, hr, hu, rfl⟩
    exact ⟨a, n, r, ha, hn, hr, u, hu, rfl⟩

theorem decoderCycle_params {rx : Option Byte} {s u : State} (h : decoderCycle rx s = .next u) :
    u.params = s.params := by
  cases rx with
  | none => exact congrArg State.params (Host.Outcome.next.inj h).symm
  | some b =>
    obtain ⟨v, hv, -, -, -, -, -, hparams, -⟩ := recoverableEventsStayInDecoder b s
    obtain rfl : v = u := Host.Outcome.next.inj (hv.symm.trans h)
    exact hparams

/-- Settles O37. -/
theorem agentsReadStartOfCycleValues : Obligations.AgentsReadStartOfCycleValues := by
  intro s t hrun hstep
  obtain ⟨hrst, -⟩ := runStep_eq_true_iff.mp hrun
  obtain ⟨a, n, r, u, hnode, hnet, hstor, hdec, rfl⟩ :=
    (step_eq_next_of_runStep hrun (cfgChanges_of_step hstep hrst)).mp hstep
  refine ⟨hnode, hnet, hstor, ⟨u, hdec, rfl⟩, rfl, rfl, ?params, rfl, rfl⟩
  case params =>
    show u.params = s.params
    exact decoderCycle_params hdec

/-! ## Noninterference -/

/-- The decoder's registers after a byte depend on its registers and the parameters alone: two states that agree there
differ by `withOthers`. -/
theorem decoderCycle_congr {rx : Option Byte} {s t u v : State} (hregs : decoderRegs s = decoderRegs t)
    (hparams : s.params = t.params) (hu : decoderCycle rx s = .next u) (hv : decoderCycle rx t = .next v) :
    decoderRegs u = decoderRegs v := by
  have hothers : t = withOthers t.mode t.haltCause t.stim t.cfg t.node t.net t.stor s := by
    simp only [decoderRegs, DecoderRegs.mk.injEq] at hregs
    obtain ⟨hdec, hlatch, hnode, hstor, hnet, hsync, hcsum, hok, hundef⟩ := hregs
    rw [withOthers, hdec, hlatch, hnode, hstor, hnet, hsync, hcsum, hok, hundef, hparams]
  rw [hothers, decoderCycle_withOthers, hu, mapNext_next] at hv
  rw [← Host.Outcome.next.inj hv, decoderRegs_withOthers]

theorem runStep_congr {inp : CycleIn} {s t : State} (h : s.mode = t.mode) : runStep inp s = runStep inp t := by
  rw [runStep, runStep, h]

/-- Settles O57. Both steps are a reset, or stepping cycles, or leave these registers. -/
theorem agentsDoNotInterfere : Obligations.AgentsDoNotInterfere := by
  intro s t s' t' hs ht hin hmode hparams hcfg
  cases hrst : (nextInput s).rst with
  | true =>
    rw [step_of_rst hrst] at hs
    rw [step_of_rst (hin ▸ hrst)] at ht
    rw [← Host.Outcome.next.inj hs, ← Host.Outcome.next.inj ht]
    exact ⟨fun _ => rfl, fun _ _ => rfl, fun _ _ => rfl, fun _ _ => rfl⟩
  | false =>
    have hrst' : (nextInput t).rst = false := hin ▸ hrst
    have hsame : runStep (nextInput t) t = runStep (nextInput s) s := by rw [← hin, runStep_congr hmode]
    cases hrun : runStep (nextInput s) s with
    | true =>
      have hrun' : runStep (nextInput t) t = true := hsame.trans hrun
      obtain ⟨hnode, hnet, hstor, ⟨u, hu, hregs⟩, -⟩ := agentsReadStartOfCycleValues s s' hrun hs
      obtain ⟨hnode', hnet', hstor', ⟨v, hv, hregs'⟩, -⟩ := agentsReadStartOfCycleValues t t' hrun' ht
      rw [← hin, ← hparams, ← hcfg] at hnode' hnet' hstor'
      rw [← hin] at hv
      refine ⟨fun h => ?decoder, fun h hcell => ?node, fun h hcell => ?net, fun h hcell => ?stor⟩
      case decoder => rw [hregs, hregs', decoderCycle_congr h hparams hu hv]
      case node =>
        rw [← h, ← hcell] at hnode'
        exact Except.ok.inj (hnode.symm.trans hnode')
      case net =>
        rw [← h, ← hcell] at hnet'
        exact Except.ok.inj (hnet.symm.trans hnet')
      case stor =>
        rw [← h, ← hcell] at hstor'
        exact Except.ok.inj (hstor.symm.trans hstor')
    | false =>
      have hrun' : runStep (nextInput t) t = false := hsame.trans hrun
      obtain ⟨-, -, houtside⟩ := runStepGatesTheAgents s
      obtain ⟨-, -, houtside'⟩ := runStepGatesTheAgents t
      obtain ⟨hdec, hnode, hnet, hstor⟩ := houtside s' hrun hrst hs
      obtain ⟨hdec', hnode', hnet', hstor'⟩ := houtside' t' hrun' hrst' ht
      rw [hdec, hdec', hnode, hnode', hnet, hnet', hstor, hstor']
      exact ⟨id, fun h _ => h, fun h _ => h, fun h _ => h⟩

/-! ## The instruction of a byte -/

theorem fetch_eq_some_iff (b : Byte) (s : State) (i : Instr) : fetch b s = some i ↔
    (s.decSt = .hunt ∧ decode .header0 [b] = .ok (i, [])) ∨ (s.decSt = .h1 ∧ decode .header1 [b] = .ok (i, [])) ∨
    (s.decSt = .csum ∧ decode .frame [0x55#8, 0xAA#8, s.ctrlLatch, b] = .ok (i, [])) := by
  rw [decode_header0_eq_ok, decode_header1_eq_ok, decode_frame_eq_ok]
  cases hs : s.decSt with
  | hunt => rw [fetch_hunt b hs]; simp [header0, eq_comm]
  | h1 => rw [fetch_h1 b hs]; simp [header1, eq_comm]
  | ctrl => rw [fetch_ctrl b hs]; simp
  | csum => rw [fetch_csum b hs]; simp [header0, header1, eq_comm]

/-- The animators write neither `DEC_ST` nor the control latch, which is all that `fetch` reads. -/
theorem fetch_congr {b : Byte} {s t : State} (hdec : s.decSt = t.decSt) (hlatch : s.ctrlLatch = t.ctrlLatch) :
    fetch b s = fetch b t := by
  unfold fetch
  rw [hdec, hlatch]

/-- Settles O52. -/
theorem stepRunsDecodedInstruction : Obligations.StepRunsDecodedInstruction := by
  refine ⟨fetch_eq_some_iff, fun s u b hrun hcfg hrx hanim => ?_⟩
  have hstep : step s = decodeByte b u := by
    rw [step_of_runStep hrun hcfg, runCycle, hanim, andThen_next, hrx]
    rfl
  obtain ⟨a, n, r, -, -, -, rfl⟩ := animatorsCycle_eq_next.mp hanim
  refine ⟨rfl, fun i hi => ?instr, fun hnone => ?other⟩
  case instr => exact hstep.trans (decodeByte_of_fetch_some ((fetch_congr rfl rfl).trans hi))
  case other => exact hstep.trans (decodeByte_of_fetch_none ((fetch_congr rfl rfl).trans hnone))

/-! ## The mode -/

theorem sysCheck_cases (s : State) :
    (cfgOk s.params s.cfg = true ∧ sysCheck s = { s with mode := .run }) ∨
    (cfgOk s.params s.cfg = false ∧ sysCheck s = raiseHalt .configError s) := by
  cases hok : cfgOk s.params s.cfg with
  | true => exact .inl ⟨rfl, sysCheck_of_cfgOk hok⟩
  | false => exact .inr ⟨rfl, sysCheck_of_not_cfgOk hok⟩

/-- Settles O45, by the six things a cycle can do. -/
theorem modeChangesOnlyByTheseEvents : Obligations.ModeChangesOnlyByTheseEvents := by
  intro s t hstep hrst
  rcases clockCycle_cases (step_cases hstep) with ⟨hreset, -⟩ | ⟨-, -, hmode, rfl⟩ | ⟨-, -, hmode, hio, rfl⟩ |
    ⟨-, -, hmode, hio, hshut, rfl⟩ | ⟨-, -, hmode, hio, hshut, -⟩ | ⟨-, -, hmode, rfl⟩
  · rw [hrst] at hreset
    contradiction
  · rw [takeInput_mode] at hmode
    rcases sysCheck_cases (takeInput s) with ⟨hok, heq⟩ | ⟨hbad, heq⟩
    · rw [takeInput_params, takeInput_cfg] at hok
      simp [heq, hmode, hok]
    · rw [takeInput_params, takeInput_cfg] at hbad
      simp [heq, hmode, hbad]
  · rw [takeInput_mode] at hmode
    simp [hmode, hio]
  · rw [takeInput_mode] at hmode
    simp [hmode, hio, hshut]
  · rw [takeInput_mode] at hmode
    obtain ⟨-, -, -, -, htmode, hcause, hparams, hcfg, -⟩ :=
      agentsReadStartOfCycleValues s t (runStep_eq_true_iff.mpr ⟨hrst, hmode, hio, hshut⟩) hstep
    simp [hmode, htmode, hcause, hparams, hcfg]
  · rw [takeInput_mode] at hmode
    simp [hmode]

/-- Settles O46. -/
theorem codeThreeAndNewConfigRefused : Obligations.CodeThreeAndNewConfigRefused := by
  refine fun s hrst => ⟨fun hmode hcfg => ?code3, fun c hc hne => ?newConfig⟩
  case code3 => simp [step, clockCycle, hrst, hcfg, hmode]
  case newConfig =>
    have hchanges : cfgChanges (nextInput s) s = true := by simp [cfgChanges, hc, hne]
    simp [step, clockCycle, hrst, hchanges]

/-! ## Equal levels -/

theorem exists_litAt_of_mem_pinList {s : State} {q : Nat} (hq : q ∈ pinList s.cfg) : ∃ lit, litAt s q = some lit := by
  cases hlit : litAt s q with
  | some lit => exact ⟨lit, rfl⟩
  | none =>
    rw [← pinMap_keys] at hq
    obtain ⟨e, he, rfl⟩ := List.mem_map.mp hq
    have := List.lookup_eq_none_iff.mp hlit e he
    simp at this

theorem levelOf_of_equal {c : Cfg} (h : c.lightLevel = c.darkLevel) (lit : Bool) : levelOf c lit = c.lightLevel := by
  cases lit with
  | true => rfl
  | false => exact h.symm

/-- Settles O51. -/
theorem equalLevelsShowOneLevel : Obligations.EqualLevelsShowOneLevel := by
  refine ⟨fun s hmode hlevels q hq => ?_, fun _ _ _ _ => rfl⟩
  obtain ⟨lit, hlit⟩ := exists_litAt_of_mem_pinList hq
  obtain ⟨hoe, ho⟩ := gpio_of_litAt_some hmode hlit
  exact ⟨hoe, ho.trans (levelOf_of_equal hlevels lit)⟩

/-! ## The start-up sequence -/

/-- With a checked configuration every pin of the map is driven at the level of its own bit. -/
theorem gpio_of_mem_pinMap {s : State} (hmode : s.mode = .run) (hok : cfgOk s.params s.cfg = true) {e : Nat × Bool}
    (he : e ∈ pinMap s) : gpioOe s e.1 = true ∧ gpioO s e.1 = levelOf s.cfg e.2 :=
  gpio_of_litAt_some hmode (litAt_of_mem_pinMap (cfgOk_eq_true_iff.mp hok).2.1 he)

/-- The state of the first RUN cycle: the registers at reset, but for the mode (70_reset_and_hazards.md R211). -/
def firstRun (p : Params) (c : Cfg) (stim : List CycleIn) : State := { State.atReset p c stim with mode := .run }

section
variable (p : Params) (c : Cfg) (stim : List CycleIn)

theorem firstRun_pins_dark (hok : cfgOk p c = true) :
    ∀ q ∈ pinList c, gpioOe (firstRun p c stim) q = true ∧ gpioO (firstRun p c stim) q = c.darkLevel := by
  intro q hq
  have hall : ∀ e ∈ pinMap (firstRun p c stim), e.2 = false := by
    simp [pinMap, pinList, firstRun, State.atReset, Anim.atReset, Pins.dark]
  have hkey : q ∈ (pinMap (firstRun p c stim)).map Prod.fst := hq
  obtain ⟨e, he, rfl⟩ := List.mem_map.mp hkey
  obtain ⟨hoe, ho⟩ := gpio_of_mem_pinMap (s := firstRun p c stim) rfl hok he
  rw [hall e he] at ho
  exact ⟨hoe, ho⟩

/-- Each animator's first step is a sample of Normal from dark pins. -/
theorem stepNode_firstRun (tick : Bool) : stepNode tick (firstRun p c stim) =
    .ok { ph := .wait, cur := .normal, stg := 0#4, tmr := c.tIntNode, lit := ⟨true, false, false⟩ } :=
  (stepAnim_first rfl).trans (nodeProgramsDrivePins p c (Anim.atReset .normal)).1

theorem stepNet_firstRun (tick : Bool) : stepNet tick (firstRun p c stim) =
    .ok { ph := .wait, cur := { st := .normal, port := 0#3 }, stg := 0#4, tmr := c.tIntNet,
          lit := ⟨true, false, false⟩ } :=
  (stepAnim_first rfl).trans (networkSteadyProgramsDrivePins p c 0#3 (Anim.atReset NetCell.normal)).1

theorem stepStor_firstRun (tick : Bool) : stepStor tick (firstRun p c stim) =
    .ok { ph := .wait, cur := .normal, stg := 0#4, tmr := c.tIntStor, lit := ⟨true, false, false⟩ } :=
  (stepAnim_first rfl).trans (storageProgramsDrivePins p c (Anim.atReset .normal)).1

end

/-- The first stepping cycle, with whatever byte and tick it has. -/
theorem step_firstRun {p : Params} {c : Cfg} {j : CycleIn} {rest : List CycleIn} (hok : cfgOk p c = true)
    (hrst : j.rst = false) (hcfg : j.cfg = none) (hio : j.ioErr = false) (hshut : j.shutdown = false) :
    ∃ u, step (firstRun p c (j :: rest)) = .next u ∧ u.mode = .run ∧
      (∃ v, decoderCycle j.rx (firstRun p c (j :: rest)) = .next v ∧ decoderRegs u = decoderRegs v) ∧
      u.node = { ph := .wait, cur := .normal, stg := 0#4, tmr := c.tIntNode, lit := ⟨true, false, false⟩ } ∧
      u.net = { ph := .wait, cur := { st := .normal, port := 0#3 }, stg := 0#4, tmr := c.tIntNet,
                lit := ⟨true, false, false⟩ } ∧
      u.stor = { ph := .wait, cur := .normal, stg := 0#4, tmr := c.tIntStor, lit := ⟨true, false, false⟩ } ∧
      (∀ q ∈ [c.node.norm, c.net.norm, c.stor.norm], gpioO u q = c.lightLevel) ∧
      (∀ q ∈ [c.node.err, c.node.aux, c.net.err, c.net.aux, c.stor.err, c.stor.aux], gpioO u q = c.darkLevel) := by
  obtain ⟨v, hv⟩ := decoderCycle_completes j.rx (firstRun p c (j :: rest))
  have hrun : runStep (nextInput (firstRun p c (j :: rest))) (firstRun p c (j :: rest)) = true :=
    runStep_eq_true_iff.mpr ⟨hrst, rfl, hio, hshut⟩
  have hsame : cfgChanges (nextInput (firstRun p c (j :: rest))) (firstRun p c (j :: rest)) = false :=
    cfgChanges_of_cfg_none hcfg _
  have hstep := (step_eq_next_of_runStep hrun hsame).mpr ⟨_, _, _, v, stepNode_firstRun p c _ j.tick,
    stepNet_firstRun p c _ j.tick, stepStor_firstRun p c _ j.tick, hv, rfl⟩
  obtain ⟨-, -, -, -, hmode, -, hparams, hcfg', -⟩ := agentsReadStartOfCycleValues _ _ hrun hstep
  have hlevel := fun e => gpio_of_mem_pinMap (e := e) hmode (by rw [hparams, hcfg']; exact hok)
  refine ⟨_, hstep, rfl, ⟨v, hv, rfl⟩, rfl, rfl, rfl, fun q hq => ?lit, fun q hq => ?dark⟩
  case lit =>
    refine (hlevel (q, true) ?_).2
    simp only [List.mem_cons, List.not_mem_nil, or_false] at hq
    rcases hq with rfl | rfl | rfl <;> simp [pinMap, pinList, withOthers, firstRun, State.atReset]
  case dark =>
    refine (hlevel (q, false) ?_).2
    simp only [List.mem_cons, List.not_mem_nil, or_false] at hq
    rcases hq with rfl | rfl | rfl | rfl | rfl | rfl <;>
      simp [pinMap, pinList, withOthers, firstRun, State.atReset]

/-- Settles O48. -/
theorem startUpSequence : Obligations.StartUpSequence := by
  intro p c i j rest hrst hcfg
  obtain ⟨hvalid, hinvalid⟩ :=
    checkCycleDecidesMode (State.atReset p c (i :: j :: rest)) rfl hrst (cfgChanges_of_cfg_none hcfg _)
  refine ⟨fun q => (gpio_outside_run (show Mode.check ≠ .run by decide) q).1, fun hbad => ?invalid, fun hok => ?valid⟩
  case invalid => exact ⟨_, hinvalid hbad, rfl, rfl, fun q => (gpio_outside_run (show Mode.halt ≠ .run by decide) q).1⟩
  case valid =>
    exact ⟨firstRun p c (j :: rest), hvalid hok, rfl, firstRun_pins_dark p c _ hok, step_firstRun hok⟩

end Sys2Proof.Machine
end

section
/-! The block's invariant: it holds at reset, and from a state that has it every step completes and keeps it. The
animators' part is one argument about any sound family of programs, applied to each of the three families. -/

namespace Sys2Proof.Machine

/-! ## Sound programs -/

/-- What the invariant needs of the program of one value: its waits run and fit the timer, its stages can be numbered in
4 bits, and its actions make the pins those of `pins`, stage by stage. `start` is what the pins may be where an
iteration starts, and so what its last stage must leave. -/
structure ProgramSound (start : Pins → Prop) (width : Nat) (pins : Nat → Pins) (P : Program) : Prop where
  length_le : (stagesOf P).length ≤ 16
  wait_pos : ∀ st ∈ stagesOf P, 1 ≤ st.wait
  wait_fits : ∀ st ∈ stagesOf P, st.wait < 2 ^ width
  first_pins : ∀ l, start l → runActions P.first.actions l = pins 0
  next_pins : ∀ i st, stageAt P (i + 1) = some st → runActions st.actions (pins i) = pins (i + 1)
  last_pins : start (pins P.rest.length)

/-- An animator's programs: one for every legal value, each sound, and an iteration may start from dark pins. -/
structure AnimatorSound {σ : Type} (prog : σ → Option Program) (legal : σ → Bool) (pins : σ → Nat → Pins)
    (width : Nat) (start : Pins → Prop) : Prop where
  start_dark : start Pins.dark
  program : ∀ v, legal v = true → ∃ P, prog v = some P ∧ ProgramSound start width (pins v) P

theorem stageAt_zero (P : Program) : stageAt P 0 = some P.first := rfl

theorem mem_stagesOf_of_stageAt {P : Program} {i : Nat} {st : Stage} (h : stageAt P i = some st) : st ∈ stagesOf P :=
  List.mem_of_getElem? h

theorem lt_length_of_stageAt {P : Program} {i : Nat} {st : Stage} (h : stageAt P i = some st) :
    i < (stagesOf P).length :=
  (List.getElem?_eq_some_iff.mp h).1

/-- A stage with none after it is the last. -/
theorem eq_rest_length_of_last {P : Program} {i : Nat} {st : Stage} (h : stageAt P i = some st)
    (hnone : stageAt P (i + 1) = none) : i = P.rest.length := by
  have hlt := lt_length_of_stageAt h
  have hge : (stagesOf P).length ≤ i + 1 := List.getElem?_eq_none_iff.mp hnone
  rw [stagesOf, List.length_cons] at hlt hge
  omega

section
variable {σ : Type} {prog : σ → Option Program} {legal : σ → Bool} {pins : σ → Nat → Pins} {width : Nat}
  {start : Pins → Prop} {code3 : Refusal} {v : σ} {a : Anim σ} {P : Program}

/-- An animator that has started a stage of its program stands in it. -/
theorem animOk_startStage {i : Nat} {st : Stage} (hcur : legal a.cur = true) (hprog : prog a.cur = some P)
    (hsound : ProgramSound start width (pins a.cur) P) (hst : stageAt P i = some st)
    (hpins : runActions st.actions a.lit = pins a.cur i) : AnimOk prog legal pins width (startStage i st a) := by
  have hmem := mem_stagesOf_of_stageAt hst
  have hnum : (BitVec.ofNat 4 i).toNat = i :=
    Nat.mod_eq_of_lt (Nat.lt_of_lt_of_le (lt_length_of_stageAt hst) hsound.length_le)
  refine ⟨hcur, hsound.wait_fits st hmem, nofun, fun _ => ?_⟩
  rw [startStage_stg, hnum]
  exact ⟨hpins, P, st, hprog, hst, hsound.wait_pos st hmem, Nat.le_refl _⟩

theorem sampleAnim_keeps_ok (hsound : AnimatorSound prog legal pins width start) (hv : legal v = true)
    (hlit : start a.lit) : ∃ b, sampleAnim prog code3 v a = .ok b ∧ AnimOk prog legal pins width b := by
  obtain ⟨P, hP, hPs⟩ := hsound.program v hv
  exact ⟨_, sampleAnim_eq_ok.mpr ⟨P, hP, rfl⟩,
    animOk_startStage (a := { a with cur := v }) hv hP hPs (stageAt_zero P) (hPs.first_pins a.lit hlit)⟩

theorem endStage_keeps_ok (hsound : AnimatorSound prog legal pins width start) (hv : legal v = true)
    (hok : AnimOk prog legal pins width a) (hph : a.ph = .wait) :
    ∃ b, endStage prog code3 v a = .ok b ∧ AnimOk prog legal pins width b := by
  obtain ⟨hcur, -, -, hwait⟩ := hok
  obtain ⟨hlit, P, st, hP, hst, -⟩ := hwait hph
  obtain ⟨Q, hQ, hPs⟩ := hsound.program a.cur hcur
  obtain rfl : P = Q := Option.some.inj (hP.symm.trans hQ)
  cases hnext : stageAt P (a.stg.toNat + 1) with
  | some st' =>
    exact ⟨_, endStage_of_next_stage hP hnext,
      animOk_startStage hcur hP hPs hnext (by rw [hlit]; exact hPs.next_pins _ _ hnext)⟩
  | none =>
    rw [endStage_of_last_stage hP hnext]
    refine sampleAnim_keeps_ok hsound hv ?_
    rw [hlit, eq_rest_length_of_last hst hnext]
    exact hPs.last_pins

/-- An animator's step from a good place completes in one: a sample before the first stage, and in a stage nothing, a
count, or the stage's end. -/
theorem stepAnim_keeps_ok (hsound : AnimatorSound prog legal pins width start) (hv : legal v = true)
    (hok : AnimOk prog legal pins width a) (tick : Bool) :
    ∃ b, stepAnim prog code3 v tick a = .ok b ∧ AnimOk prog legal pins width b := by
  obtain ⟨hcur, hfits, hsample, hwait⟩ := id hok
  cases hph : a.ph with
  | sample =>
    rw [stepAnim_first hph]
    exact sampleAnim_keeps_ok hsound hv (by rw [hsample hph]; exact hsound.start_dark)
  | wait =>
    cases tick with
    | false => exact ⟨a, stepAnim_noTick hph, hok⟩
    | true =>
      obtain ⟨hlit, P, st, hP, hst, hpos, hle⟩ := hwait hph
      rcases Nat.lt_or_eq_of_le hpos with hmany | hone
      · have hsamplePh : a.ph ≠ .sample := by rw [hph]; decide
        exact ⟨_, stepAnim_count hph hmany, hcur, by show a.tmr - 1 < _; omega, fun h => absurd h hsamplePh,
          fun _ => ⟨hlit, P, st, hP, hst, by show 1 ≤ a.tmr - 1; omega, by show a.tmr - 1 ≤ _; omega⟩⟩
      · rw [stepAnim_last hph hone.symm]
        exact endStage_keeps_ok hsound hv hok hph

theorem animOk_atReset {normal : σ} (h : legal normal = true) : AnimOk prog legal pins width (Anim.atReset normal) :=
  ⟨h, Nat.two_pow_pos _, fun _ => rfl, nofun⟩

end

/-! ## The waits of a well-formed block -/

theorem params_wellFormed_iff {p : Params} :
    p.wellFormed = true ↔ 9 ≤ p.numGpio ∧ 0 < p.tickHz ∧ p.tickHz % 10 = 0 ∧ 1 ≤ p.tBadPort := by
  simp [Params.wellFormed, and_assoc]

theorem blinkTimes_pos {p : Params} (h : p.wellFormed = true) : 1 ≤ tSlow p ∧ 1 ≤ tFast p := by
  obtain ⟨-, hpos, htens, -⟩ := params_wellFormed_iff.mp h
  unfold tSlow tFast
  omega

theorem intervals_pos {p : Params} {c : Cfg} (h : cfgOk p c = true) :
    1 ≤ c.tIntNode ∧ 1 ≤ c.tIntNet ∧ 1 ≤ c.tIntStor := by
  obtain ⟨-, -, hnode, hnet, hstor⟩ := cfgOk_eq_true_iff.mp h
  exact ⟨(intervalOk_eq_true_iff.mp hnode).1, (intervalOk_eq_true_iff.mp hnet).1, (intervalOk_eq_true_iff.mp hstor).1⟩

/-- A program of one stage has no second one. -/
theorem stageAt_succ_of_rest_nil {P : Program} (h : P.rest = []) (i : Nat) : stageAt P (i + 1) = none := by
  simp [stageAt, stagesOf, h]

theorem stageAt_succ_of_rest_singleton {P : Program} {i : Nat} {q st : Stage} (hrest : P.rest = [q])
    (h : stageAt P (i + 1) = some st) : i = 0 ∧ st = q := by
  have hlt := lt_length_of_stageAt h
  rw [stagesOf, hrest] at hlt
  obtain rfl : i = 0 := by simpa using hlt
  rw [stageAt, stagesOf, hrest] at h
  exact ⟨rfl, (Option.some.inj h).symm⟩

/-- A program of one stage is sound if the stage is. -/
theorem programSound_of_one_stage {start : Pins → Prop} {width : Nat} {pins : Nat → Pins} {P : Program}
    (hrest : P.rest = []) (hpos : 1 ≤ P.first.wait) (hfits : P.first.wait < 2 ^ width)
    (hfirst : ∀ l, start l → runActions P.first.actions l = pins 0) (hlast : start (pins 0)) :
    ProgramSound start width pins P where
  length_le := by simp [stagesOf, hrest]
  wait_pos := by simpa [stagesOf, hrest] using hpos
  wait_fits := by simpa [stagesOf, hrest] using hfits
  first_pins := hfirst
  next_pins i st hst := by rw [stageAt_succ_of_rest_nil hrest] at hst; cases hst
  last_pins := by rw [hrest]; exact hlast

/-- A program of two stages is sound if both are. -/
theorem programSound_of_two_stages {start : Pins → Prop} {width : Nat} {pins : Nat → Pins} {P : Program} {q : Stage}
    (hrest : P.rest = [q]) (hpos : 1 ≤ P.first.wait ∧ 1 ≤ q.wait)
    (hfits : P.first.wait < 2 ^ width ∧ q.wait < 2 ^ width)
    (hfirst : ∀ l, start l → runActions P.first.actions l = pins 0) (hnext : runActions q.actions (pins 0) = pins 1)
    (hlast : start (pins 1)) : ProgramSound start width pins P where
  length_le := by simp [stagesOf, hrest]
  wait_pos := by simpa [stagesOf, hrest] using hpos
  wait_fits := by simpa [stagesOf, hrest] using hfits
  first_pins := hfirst
  next_pins i st hst := by
    obtain ⟨rfl, rfl⟩ := stageAt_succ_of_rest_singleton hrest hst
    exact hnext
  last_pins := by rw [hrest]; exact hlast

/-! ## The node and the storage programs -/

/-- Between iterations of the node and the storage `aux` is dark, and at most one of the other pins is lit. -/
def SteadyPins (l : Pins) : Prop := l.aux = false ∧ ¬ (l.norm = true ∧ l.err = true)

/-- The three shapes of steady pins. -/
theorem steadyPins_cases {l : Pins} (h : SteadyPins l) :
    l = Pins.dark ∨ l = ⟨true, false, false⟩ ∨ l = ⟨false, true, false⟩ := by
  obtain ⟨norm, err, aux⟩ := l
  obtain ⟨rfl, hboth⟩ : aux = false ∧ _ := h
  cases norm with
  | false => cases err with
    | false => exact .inl rfl
    | true => exact .inr (.inr rfl)
  | true => cases err with
    | false => exact .inr (.inl rfl)
    | true => exact absurd ⟨rfl, rfl⟩ hboth

theorem nodeProgram_sound {p : Params} {c : Cfg} (hp : p.wellFormed = true) (hc : cfgOk p c = true) :
    AnimatorSound (nodeProgram p c) nodeLegal nodePins (tmrWidth p) SteadyPins where
  start_dark := ⟨rfl, nofun⟩
  program v hv := by
    obtain ⟨hslow, -⟩ := blinkTimes_pos hp
    obtain ⟨hslowFits, -⟩ := fixedWaits_fit p
    obtain ⟨hint, -⟩ := intervals_pos hc
    obtain ⟨hintFits, -⟩ := intervals_fit hc
    cases v with
    | normal =>
      refine ⟨_, nodeProgram_normal p c, programSound_of_one_stage rfl hint hintFits (fun l hl => ?_) ⟨rfl, nofun⟩⟩
      rw [nodeNormalProgram_pins]
      rcases steadyPins_cases hl with rfl | rfl | rfl <;> rfl
    | error =>
      refine ⟨_, nodeProgram_error p c, programSound_of_one_stage rfl hint hintFits (fun l hl => ?_) ⟨rfl, nofun⟩⟩
      rw [nodeErrorProgram_pins]
      rcases steadyPins_cases hl with rfl | rfl | rfl <;> rfl
    | sync =>
      exact ⟨_, nodeProgram_sync p c, programSound_of_two_stages rfl ⟨hslow, hslow⟩ ⟨hslowFits, hslowFits⟩
        (fun l _ => nodeSyncProgram_pins p l) rfl ⟨rfl, nofun⟩⟩
    | code3 => cases hv

theorem cfgOk_storCfgAsNode {p : Params} {c : Cfg} (h : cfgOk p c = true) : cfgOk p (storCfgAsNode c) = true := by
  obtain ⟨hpins, hnodup, -, hnet, hstor⟩ := cfgOk_eq_true_iff.mp h
  exact cfgOk_eq_true_iff.mpr ⟨hpins, hnodup, hstor, hnet, hstor⟩

theorem storLegal_eq_nodeLegal (v : StorSt) : storLegal v = nodeLegal (storStAsNode v) := by
  cases v <;> rfl

theorem storPins_eq_nodePins (v : StorSt) : storPins v = nodePins (storStAsNode v) := by
  cases v <;> rfl

/-- The storage's programs are the node's, with another interval. -/
theorem storProgram_sound {p : Params} {c : Cfg} (hp : p.wellFormed = true) (hc : cfgOk p c = true) :
    AnimatorSound (storProgram p c) storLegal storPins (tmrWidth p) SteadyPins where
  start_dark := ⟨rfl, nofun⟩
  program v hv := by
    rw [storProgram_eq_nodeProgram, storPins_eq_nodePins]
    exact (nodeProgram_sound hp (cfgOk_storCfgAsNode hc)).program _ ((storLegal_eq_nodeLegal v).symm.trans hv)

/-! ## The network programs -/

/-- Between iterations of the network only `norm` can be lit. -/
def NormOnly (l : Pins) : Prop := l.err = false ∧ l.aux = false

theorem netErrorProgram_rest_length (p : Params) (c : Cfg) (n : Nat) :
    (netErrorProgram p c (n + 1)).rest.length = 2 * (n + 1) := by
  have h := netErrorProgram_length p c n
  rw [stagesOf, List.length_cons] at h
  omega

theorem netPins_error (v : NetCell) (h : v.st = .error) (i : Nat) :
    netPins v i = { norm := false, err := decide (i % 2 = 0 ∧ i < 2 * v.port.toNat), aux := false } := by
  simp only [netPins, h]

/-- Error with a port in 1..4: the blinks, and then a dark wait. -/
theorem netErrorProgram_sound {p : Params} {c : Cfg} (hp : p.wellFormed = true) (hc : cfgOk p c = true) {v : NetCell}
    (herr : v.st = .error) (hport : 1 ≤ v.port.toNat ∧ v.port.toNat ≤ 4) :
    ProgramSound NormOnly (tmrWidth p) (netPins v) (netErrorProgram p c v.port.toNat) := by
  have hprogram := netProgram_error p c herr hport
  have hpins := netPins_error v herr
  obtain ⟨n, hn⟩ : ∃ n, v.port.toNat = n + 1 := ⟨v.port.toNat - 1, by omega⟩
  rw [hn] at hprogram hpins ⊢
  obtain ⟨-, hfast⟩ := blinkTimes_pos hp
  obtain ⟨-, hint, -⟩ := intervals_pos hc
  have hlen := netErrorProgram_length p c n
  refine ⟨by omega, fun st hst => ?pos, fun st hst => netProgram_waits_fit hc hprogram hst, fun l hl => ?first,
    fun i st hst => ?next, ?last⟩
  case pos =>
    obtain ⟨i, hi⟩ := List.mem_iff_getElem?.mp hst
    have hlt : i < 2 * (n + 1) + 1 := hlen ▸ lt_length_of_stageAt hi
    rcases Nat.lt_or_eq_of_le (Nat.le_of_lt_succ hlt) with hblink | rfl
    · obtain ⟨q, hq, hwait, -⟩ := netErrorProgram_blinks p c hblink
      obtain rfl : q = st := Option.some.inj (hq.symm.trans hi)
      omega
    · obtain rfl := Option.some.inj ((stageAt_netErrorProgram_last p c n).symm.trans hi)
      exact hint
  case first =>
    rw [netErrorProgram_first_pins, hpins, hl.2]
    simp
  case next =>
    have hlt : i + 1 < 2 * (n + 1) + 1 := hlen ▸ lt_length_of_stageAt hst
    rw [hpins, hpins]
    rcases Nat.lt_or_eq_of_le (Nat.le_of_lt_succ hlt) with hblink | hlast
    · obtain ⟨q, hq, -, hrun⟩ := netErrorProgram_blinks p c hblink
      obtain rfl : q = st := Option.some.inj (hq.symm.trans hst)
      rw [hrun]
      simp [hblink]
    · rw [hlast] at hst ⊢
      obtain rfl := Option.some.inj ((stageAt_netErrorProgram_last p c n).symm.trans hst)
      have hodd : ¬ i % 2 = 0 := by omega
      simp [hodd]
  case last =>
    rw [netErrorProgram_rest_length, hpins]
    exact ⟨by simp, rfl⟩

theorem netProgram_sound {p : Params} {c : Cfg} (hp : p.wellFormed = true) (hc : cfgOk p c = true) :
    AnimatorSound (netProgram p c) netLegal netPins (tmrWidth p) NormOnly where
  start_dark := ⟨rfl, rfl⟩
  program v hv := by
    obtain ⟨hslow, -⟩ := blinkTimes_pos hp
    obtain ⟨hslowFits, -⟩ := fixedWaits_fit p
    obtain ⟨-, hint, -⟩ := intervals_pos hc
    obtain ⟨-, hintFits, -⟩ := intervals_fit hc
    cases hst : v.st with
    | normal =>
      have hpins : netPins v = fun _ => ⟨true, false, false⟩ := by funext i; simp only [netPins, hst]
      refine ⟨_, netProgram_normal p c hst, programSound_of_one_stage rfl hint hintFits (fun l hl => ?_) ?_⟩
      · rw [netNormalProgram_pins, hpins, hl.1, hl.2]
      · rw [hpins]; exact ⟨rfl, rfl⟩
    | recovering =>
      have hpins : netPins v = fun i => ⟨false, false, decide (i = 0)⟩ := by funext i; simp only [netPins, hst]
      refine ⟨_, netProgram_recovering p c hst, programSound_of_two_stages rfl ⟨hslow, hslow⟩ ⟨hslowFits, hslowFits⟩
        (fun l hl => ?_) ?_ ?_⟩
      · rw [netRecoveringProgram_pins, hpins, hl.1]; rfl
      · rw [hpins]; rfl
      · rw [hpins]; exact ⟨rfl, rfl⟩
    | error =>
      have hport : 1 ≤ v.port.toNat ∧ v.port.toNat ≤ 4 := by simpa [netLegal, hst] using hv
      exact ⟨_, netProgram_error p c hst hport, netErrorProgram_sound hp hc hst hport⟩
    | code3 => simp [netLegal, hst] at hv

/-! ## The decoder's part -/

/-- What the invariant says of the decoder's registers. -/
structure DecoderOk (p : Params) (r : DecoderRegs) : Prop where
  node_legal : nodeLegal r.nodeSt = true
  stor_legal : storLegal r.storSt = true
  net_legal : netLegal r.netCell = true
  sync_fits : r.cntSync < 2 ^ p.cntWidth
  csum_fits : r.cntCsum < 2 ^ p.cntWidth
  ok_fits : r.cntOk < 2 ^ p.cntWidth
  undef_fits : r.cntUndef < 2 ^ p.cntWidth

theorem nodeValue_legal {c : Byte} {v : NodeSt} (h : nodeLegal v = true) : nodeLegal ((nodeValue c).getD v) = true := by
  unfold nodeValue
  split_ifs
  exacts [rfl, rfl, rfl, h]

theorem storageValue_legal {c : Byte} {v : StorSt} (h : storLegal v = true) :
    storLegal ((storageValue c).getD v) = true := by
  unfold storageValue
  split_ifs
  exacts [rfl, rfl, rfl, h]

theorem networkValue_legal {c : Byte} {v : NetCell} (h : netLegal v = true) :
    netLegal ((networkValue c).getD v) = true := by
  unfold networkValue
  split_ifs
  exacts [rfl, rfl, rfl, rfl, rfl, rfl, h]

/-- A byte counts modulo `2^CNT_WIDTH` and writes abstract states only. -/
theorem decodeByte_keeps_ok {b : Byte} {s u : State} (hok : DecoderOk s.params (decoderRegs s))
    (h : decodeByte b s = .next u) : DecoderOk s.params (decoderRegs u) := by
  rcases decodeByte_cases b s with ⟨-, -, hb⟩ | ⟨-, -, hb⟩ | ⟨-, -, hb⟩ | ⟨-, -, hb⟩ | ⟨-, hb⟩ | ⟨hs, hcrc, -⟩ |
    ⟨-, -, hb⟩
  case inr.inr.inr.inr.inr.inl =>
    have haccepted := (acceptedFrameAppliesControl s.ctrlLatch s hok.undef_fits).2 hs rfl
    rw [← hcrc] at haccepted
    rw [← Host.Outcome.next.inj (haccepted.symm.trans h)]
    exact { hok with
      node_legal := nodeValue_legal hok.node_legal
      stor_legal := storageValue_legal hok.stor_legal
      net_legal := networkValue_legal hok.net_legal
      ok_fits := bump_lt _ _
      undef_fits := Nat.mod_lt _ (Nat.two_pow_pos _) }
  all_goals rw [← Host.Outcome.next.inj (hb.symm.trans h)]
  · exact { hok with }
  · exact { hok with sync_fits := bump_lt _ _ }
  · exact { hok with }
  · rw [h1Mismatch_eq]
    exact { hok with sync_fits := bump_lt _ _ }
  · exact { hok with }
  · exact { hok with csum_fits := bump_lt _ _ }

theorem decoderCycle_keeps_ok {rx : Option Byte} {s u : State} (hok : DecoderOk s.params (decoderRegs s))
    (h : decoderCycle rx s = .next u) : DecoderOk s.params (decoderRegs u) := by
  cases rx with
  | none => rw [← Host.Outcome.next.inj h]; exact hok
  | some b => exact decodeByte_keeps_ok hok h

theorem BlockInv.decoderOk {s : State} (h : BlockInv s) : DecoderOk s.params (decoderRegs s) :=
  ⟨h.node_legal, h.stor_legal, h.net_legal, h.sync_fits, h.csum_fits, h.ok_fits, h.undef_fits⟩

/-! ## At reset -/

theorem blockInv_atReset {p : Params} (hp : p.wellFormed = true) (c : Cfg) (stim : List CycleIn) :
    BlockInv (State.atReset p c stim) where
  params_ok := hp
  mode_legal := by show Mode.check ≠ .code3; decide
  cause_iff_halt := by show (HaltCause.none = .none ↔ Mode.check ≠ .halt); decide
  node_legal := rfl
  stor_legal := rfl
  net_legal := rfl
  sync_fits := Nat.two_pow_pos _
  csum_fits := Nat.two_pow_pos _
  ok_fits := Nat.two_pow_pos _
  undef_fits := Nat.two_pow_pos _
  check_fresh := fun _ => rfl
  run_cfg := nofun
  config_halt := nofun
  node_ok := animOk_atReset rfl
  net_ok := animOk_atReset rfl
  stor_ok := animOk_atReset rfl

/-- The number of pins is left open, but for its bound. -/
theorem defaultParams_wellFormed : Config.params.wellFormed = true :=
  params_wellFormed_iff.mpr ⟨Nat.le_add_left 9 _, by decide, by decide, by decide⟩

/-- Settles O58. -/
theorem invAtReset : Obligations.InvAtReset :=
  ⟨fun _ c stim hp => blockInv_atReset hp c stim, blockInv_atReset defaultParams_wellFormed _ _⟩

/-! ## Every cycle keeps the invariant -/

/-- The invariant does not look at the inputs to come. -/
theorem blockInv_takeInput {s : State} (h : BlockInv s) : BlockInv (takeInput s) :=
  { h with
    check_fresh := fun hmode => congrArg takeInput (h.check_fresh hmode)
    config_halt := fun hcause =>
      let ⟨hbad, heq⟩ := h.config_halt hcause
      ⟨hbad, congrArg takeInput heq⟩ }

/-- In RUN there is no cause, so `config_halt` says nothing there. -/
theorem haltCause_of_run {s : State} (h : BlockInv s) (hmode : s.mode = .run) : s.haltCause = .none :=
  h.cause_iff_halt.mpr (by rw [hmode]; decide)

theorem blockInv_sysCheck {s : State} (h : BlockInv s) (hmode : s.mode = .check) : BlockInv (sysCheck s) := by
  have hfresh := h.check_fresh hmode
  have hcause : s.haltCause = .none := congrArg State.haltCause hfresh
  rcases sysCheck_cases s with ⟨hok, heq⟩ | ⟨hbad, heq⟩ <;> rw [heq]
  · exact { h with
      mode_legal := by show Mode.run ≠ .code3; decide
      cause_iff_halt := by show (s.haltCause = .none ↔ Mode.run ≠ .halt); simp [hcause]
      check_fresh := nofun
      run_cfg := fun _ => hok
      config_halt := fun hconfig => HaltCause.noConfusion (hcause.symm.trans hconfig) }
  · exact { h with
      mode_legal := by show Mode.halt ≠ .code3; decide
      cause_iff_halt := by show (HaltCause.configError = .none ↔ Mode.halt ≠ .halt); decide
      check_fresh := nofun
      run_cfg := nofun
      config_halt := fun _ => ⟨hbad, congrArg (raiseHalt .configError) hfresh⟩ }

theorem blockInv_raiseHalt {s : State} (h : BlockInv s) {cause : HaltCause} (hnone : cause ≠ .none)
    (hconfig : cause ≠ .configError) : BlockInv (raiseHalt cause s) :=
  { h with
    mode_legal := by show Mode.halt ≠ .code3; decide
    cause_iff_halt := by show (cause = .none ↔ Mode.halt ≠ .halt); simp [hnone]
    check_fresh := nofun
    run_cfg := nofun
    config_halt := fun hc => absurd hc hconfig }

/-- The animators step from their good places, whatever the decoder does. -/
theorem animators_keep_ok {s : State} (h : BlockInv s) (hmode : s.mode = .run) (tick : Bool) :
    (∃ a, stepNode tick s = .ok a ∧ AnimOk (nodeProgram s.params s.cfg) nodeLegal nodePins (tmrWidth s.params) a) ∧
    (∃ n, stepNet tick s = .ok n ∧ AnimOk (netProgram s.params s.cfg) netLegal netPins (tmrWidth s.params) n) ∧
    (∃ r, stepStor tick s = .ok r ∧ AnimOk (storProgram s.params s.cfg) storLegal storPins (tmrWidth s.params) r) :=
  have hcfg := h.run_cfg hmode
  ⟨stepAnim_keeps_ok (nodeProgram_sound h.params_ok hcfg) h.node_legal h.node_ok tick,
    stepAnim_keeps_ok (netProgram_sound h.params_ok hcfg) h.net_legal h.net_ok tick,
    stepAnim_keeps_ok (storProgram_sound h.params_ok hcfg) h.stor_legal h.stor_ok tick⟩

/-- A stepping cycle from a good state completes in a good state: the animators' parts and the decoder's, put together
in RUN. -/
theorem runStep_keeps_inv {s : State} (h : BlockInv s) (hrun : runStep (nextInput s) s = true)
    (hcfg : cfgChanges (nextInput s) s = false) : ∃ t, step s = .next t ∧ BlockInv t := by
  obtain ⟨-, hmode, -⟩ := runStep_eq_true_iff.mp hrun
  obtain ⟨⟨a, ha, haok⟩, ⟨n, hn, hnok⟩, ⟨r, hr, hrok⟩⟩ := animators_keep_ok h hmode (nextInput s).tick
  obtain ⟨u, hu⟩ := decoderCycle_completes (nextInput s).rx s
  have hparams : u.params = s.params := decoderCycle_params hu
  have hcause : s.haltCause = .none := haltCause_of_run h hmode
  have hdec : DecoderOk u.params (decoderRegs u) := hparams ▸ decoderCycle_keeps_ok h.decoderOk hu
  refine ⟨_, (step_eq_next_of_runStep hrun hcfg).mpr ⟨a, n, r, u, ha, hn, hr, hu, rfl⟩, ?_⟩
  rw [← hparams] at haok hnok hrok
  exact {
    params_ok := by show u.params.wellFormed = true; rw [hparams]; exact h.params_ok
    mode_legal := by show Mode.run ≠ .code3; decide
    cause_iff_halt := by show (s.haltCause = .none ↔ Mode.run ≠ .halt); simp [hcause]
    node_legal := hdec.node_legal
    stor_legal := hdec.stor_legal
    net_legal := hdec.net_legal
    sync_fits := hdec.sync_fits
    csum_fits := hdec.csum_fits
    ok_fits := hdec.ok_fits
    undef_fits := hdec.undef_fits
    check_fresh := nofun
    run_cfg := fun _ => by show cfgOk u.params s.cfg = true; rw [hparams]; exact h.run_cfg hmode
    config_halt := fun hconfig => HaltCause.noConfusion (hcause.symm.trans hconfig)
    node_ok := haok
    net_ok := hnok
    stor_ok := hrok }

/-- From a good state every cycle that the stimulus allows completes in a good state, by what the cycle is: a reset, the
check, a halt entry, a stepping cycle or a cycle of HALT. -/
theorem step_keeps_inv {s : State} (h : BlockInv s)
    (hin : (nextInput s).rst = true ∨ cfgChanges (nextInput s) s = false) : ∃ t, step s = .next t ∧ BlockInv t := by
  cases hrst : (nextInput s).rst with
  | true => exact ⟨_, step_of_rst hrst, blockInv_atReset h.params_ok _ _⟩
  | false =>
    have hcfg : cfgChanges (nextInput s) s = false := hin.resolve_left (by rw [hrst]; decide)
    have hnext := blockInv_takeInput h
    cases hmode : s.mode with
    | check => exact ⟨_, step_of_check hrst hcfg hmode, blockInv_sysCheck hnext hmode⟩
    | run =>
      cases hio : (nextInput s).ioErr with
      | true =>
        exact ⟨_, (step_of_run hrst hcfg hmode).trans (sysRun_of_ioErr hio _),
          blockInv_raiseHalt hnext (by decide) (by decide)⟩
      | false =>
        cases hshut : (nextInput s).shutdown with
        | true =>
          exact ⟨_, (step_of_run hrst hcfg hmode).trans (sysRun_of_shutdown hio hshut _),
            blockInv_raiseHalt hnext (by decide) (by decide)⟩
        | false => exact runStep_keeps_inv h (runStep_eq_true_iff.mpr ⟨hrst, hmode, hio, hshut⟩) hcfg
    | halt => exact ⟨takeInput s, by simp [step, clockCycle, hrst, hcfg, hmode], hnext⟩
    | code3 => exact absurd hmode h.mode_legal

/-- Settles O60. -/
theorem goodStateAlwaysSteps : Obligations.GoodStateAlwaysSteps := fun _ h hin =>
  let ⟨t, ht, _⟩ := step_keeps_inv h hin
  ⟨t, ht⟩

/-- Settles O59. A step that completes is one the stimulus allows, and `step_keeps_inv` says where it leads. -/
theorem stepKeepsInv : Obligations.StepKeepsInv := by
  intro s t h hstep
  have hin : (nextInput s).rst = true ∨ cfgChanges (nextInput s) s = false := by
    cases hrst : (nextInput s).rst with
    | true => exact .inl rfl
    | false => exact .inr (cfgChanges_of_step hstep hrst)
  obtain ⟨t', ht', hinv⟩ := step_keeps_inv h hin
  obtain rfl : t' = t := Host.Outcome.next.inj (ht'.symm.trans hstep)
  exact hinv

/-! ## The pins of a good state -/

/-- The pins an animator can show: dark ones before its first sample, and then those of its stage. -/
theorem lit_of_animOk {σ : Type} {prog : σ → Option Program} {legal : σ → Bool} {pins : σ → Nat → Pins} {width : Nat}
    {a : Anim σ} (h : AnimOk prog legal pins width a) :
    a.lit = Pins.dark ∨ (a.ph = .wait ∧ a.lit = pins a.cur a.stg.toNat) := by
  obtain ⟨-, -, hsample, hwait⟩ := h
  cases hph : a.ph with
  | sample => exact .inl (hsample hph)
  | wait => exact .inr ⟨rfl, (hwait hph).1⟩

/-- Pins of which `norm` is not lit beside another, and `aux` in stage 0 of a blinking value only. -/
def PinsExclusive {σ : Type} (pins : σ → Nat → Pins) (blinks : σ → Prop) : Prop :=
  ∀ v i, ¬ ((pins v i).norm = true ∧ (pins v i).err = true) ∧ ¬ ((pins v i).norm = true ∧ (pins v i).aux = true) ∧
    ((pins v i).aux = true → blinks v ∧ i = 0)

theorem nodePins_exclusive : PinsExclusive nodePins (fun v => v = .sync) := by
  intro v i
  cases v <;> simp [nodePins, Pins.dark]

theorem storPins_exclusive : PinsExclusive storPins (fun v => v = .recovering) := by
  intro v i
  cases v <;> simp [storPins, Pins.dark]

theorem netPins_exclusive : PinsExclusive netPins (fun v => v.st = .recovering) := by
  intro v i
  cases hst : v.st <;> simp [netPins, hst, Pins.dark]

theorem netPins_err {v : NetCell} {i : Nat} (h : (netPins v i).err = true) :
    v.st = .error ∧ i % 2 = 0 ∧ i < 2 * v.port.toNat := by
  cases hst : v.st <;> simp [netPins, hst, Pins.dark] at h
  exact ⟨rfl, h⟩

theorem lit_exclusive_of_animOk {σ : Type} {prog : σ → Option Program} {legal : σ → Bool} {pins : σ → Nat → Pins}
    {width : Nat} {blinks : σ → Prop} {a : Anim σ} (hpins : PinsExclusive pins blinks)
    (h : AnimOk prog legal pins width a) :
    ¬ (a.lit.norm = true ∧ a.lit.err = true) ∧ ¬ (a.lit.norm = true ∧ a.lit.aux = true) ∧
    (a.lit.aux = true → a.ph = .wait ∧ blinks a.cur ∧ a.stg = 0#4) := by
  rcases lit_of_animOk h with hlit | ⟨hph, hlit⟩ <;> rw [hlit]
  · exact ⟨nofun, nofun, nofun⟩
  · obtain ⟨herr, haux, hfirst⟩ := hpins a.cur a.stg.toNat
    refine ⟨herr, haux, fun h => ?_⟩
    obtain ⟨hblinks, hstg⟩ := hfirst h
    exact ⟨hph, hblinks, BitVec.eq_of_toNat_eq hstg⟩

theorem net_err_of_inv {s : State} (h : BlockInv s) (herr : s.net.lit.err = true) :
    s.net.ph = .wait ∧ s.net.cur.st = .error ∧ s.net.stg.toNat % 2 = 0 ∧
      s.net.stg.toNat < 2 * s.net.cur.port.toNat := by
  rcases lit_of_animOk h.net_ok with hlit | ⟨hph, hlit⟩ <;> rw [hlit] at herr
  · cases herr
  · exact ⟨hph, netPins_err herr⟩

/-- Settles O39. -/
theorem pinsExcludeEachOther : Obligations.PinsExcludeEachOther := by
  intro s h
  obtain ⟨hnodeErr, hnodeAux, hnodeFirst⟩ := lit_exclusive_of_animOk nodePins_exclusive h.node_ok
  obtain ⟨hnetErr, hnetAux, hnetFirst⟩ := lit_exclusive_of_animOk netPins_exclusive h.net_ok
  obtain ⟨hstorErr, hstorAux, hstorFirst⟩ := lit_exclusive_of_animOk storPins_exclusive h.stor_ok
  exact ⟨hnodeErr, hnetErr, hstorErr, hnodeAux, hnetAux, hstorAux, hnodeFirst, hnetFirst, hstorFirst,
    net_err_of_inv h⟩

end Sys2Proof.Machine
end

section
/-! Iterations (42_animator_engine.md R124, R126): where an animator stands after so many tick strobes, how long the
iteration lasts, and that the next sample comes within it. -/

namespace Sys2Proof.Machine

/-! ## Stages, waits and pins of a program -/

section
variable {P : Program} {i : Nat} {st : Stage}

theorem take_succ_of_stageAt (h : stageAt P i = some st) :
    (stagesOf P).take (i + 1) = (stagesOf P).take i ++ [st] := by
  rw [List.take_add_one, show (stagesOf P)[i]? = some st from h]
  rfl

theorem waitBefore_succ (h : stageAt P i = some st) : waitBefore P (i + 1) = waitBefore P i + st.wait := by
  rw [waitBefore, take_succ_of_stageAt h, List.map_append, List.sum_append]
  rfl

theorem pinsAfter_succ (h : stageAt P i = some st) (l : Pins) :
    pinsAfter P (i + 1) l = runActions st.actions (pinsAfter P i l) := by
  rw [pinsAfter, take_succ_of_stageAt h, List.foldl_append]
  rfl

theorem waitBefore_le_totalWait (P : Program) (n : Nat) : waitBefore P n ≤ totalWait P := by
  have hsplit := congrArg (fun l => (l.map fun st => st.wait).sum) (List.take_append_drop n (stagesOf P))
  simp only [List.map_append, List.sum_append] at hsplit
  rw [totalWait, ← hsplit]
  exact Nat.le_add_right _ _

/-- A stage with none after it is the last, and the waits up to its end are all of the iteration's. -/
theorem last_stage (h : stageAt P i = some st) (hnone : stageAt P (i + 1) = none) :
    i + 1 = (stagesOf P).length ∧ waitBefore P (i + 1) = totalWait P := by
  have hlen : i + 1 = (stagesOf P).length := congrArg (· + 1) (eq_rest_length_of_last h hnone)
  refine ⟨hlen, ?_⟩
  rw [waitBefore, hlen, List.take_length]
  rfl

end

/-! ## Where an animator stands within an iteration -/

/-- `k` tick strobes after its sample an animator waits in the stage those strobes lead to, for the rest of that stage's
wait, with the value it latched; `R` says what is known of the pins in each stage. -/
def Within {σ : Type} (P : Program) (v : σ) (R : Nat → Pins → Prop) (k : Nat) (a : Anim σ) : Prop :=
  ∃ i st l, stageAt P i = some st ∧ waitBefore P i ≤ k ∧ k < waitBefore P i + st.wait ∧ R i l ∧
    a = { ph := .wait, cur := v, stg := BitVec.ofNat 4 i, tmr := waitBefore P i + st.wait - k, lit := l }

/-- Sampling overwrites every register but the pins. -/
theorem sampleAnim_congr {σ : Type} {prog : σ → Option Program} {code3 : Refusal} {v : σ} {a b : Anim σ}
    (h : a.lit = b.lit) : sampleAnim prog code3 v a = sampleAnim prog code3 v b := by
  simp only [sampleAnim, startStage, h]

section
variable {σ : Type} {prog : σ → Option Program} {code3 : Refusal} {P : Program} {v : σ} {R : Nat → Pins → Prop}
  {k : Nat} {a : Anim σ}

theorem Within.ph_cur (h : Within P v R k a) : a.ph = .wait ∧ a.cur = v := by
  obtain ⟨i, st, l, -, -, -, -, rfl⟩ := h
  exact ⟨rfl, rfl⟩

theorem stg_toNat_of_stageAt {i : Nat} {st : Stage} (hlen : (stagesOf P).length ≤ 16) (h : stageAt P i = some st) :
    (BitVec.ofNat 4 i).toNat = i :=
  Nat.mod_eq_of_lt (Nat.lt_of_lt_of_le (lt_length_of_stageAt h) hlen)

/-- The last tick of a stage finds the timer at 1. -/
theorem timer_at_stage_end {i : Nat} {st : Stage} (hin : k < waitBefore P i + st.wait)
    (hend : ¬ k + 1 < waitBefore P i + st.wait) : waitBefore P i + st.wait - k = 1 := by
  omega

section
variable (hP : prog v = some P) (hlen : (stagesOf P).length ≤ 16)
include hP hlen

/-- A tick within the iteration counts, or starts the next stage. -/
theorem stepAnim_within (hpos : ∀ st ∈ stagesOf P, 1 ≤ st.wait)
    (hR : ∀ i st l, stageAt P (i + 1) = some st → R i l → R (i + 1) (runActions st.actions l))
    (h : Within P v R k a) (hk : k + 1 < totalWait P) (w : σ) :
    ∃ b, stepAnim prog code3 w true a = .ok b ∧ Within P v R (k + 1) b := by
  obtain ⟨i, st, l, hst, hlo, hhi, hl, rfl⟩ := h
  by_cases hmore : k + 1 < waitBefore P i + st.wait
  · exact ⟨_, stepAnim_count rfl (by show 1 < waitBefore P i + st.wait - k; omega), i, st, l, hst, by omega, hmore, hl,
      rfl⟩
  · have hstg := stg_toNat_of_stageAt hlen hst
    rw [stepAnim_last rfl (timer_at_stage_end hhi hmore)]
    cases hnext : stageAt P (i + 1) with
    | none =>
      have htotal := (last_stage hst hnext).2
      rw [waitBefore_succ hst] at htotal
      omega
    | some st' =>
      have hsucc := waitBefore_succ hst
      have hpos' := hpos st' (mem_stagesOf_of_stageAt hnext)
      refine ⟨_, endStage_of_next_stage hP (by rw [hstg]; exact hnext), i + 1, st', runActions st'.actions l, hnext,
        by omega, by omega, hR i st' l hnext hl, ?_⟩
      have hfull : waitBefore P (i + 1) + st'.wait - (k + 1) = st'.wait := by omega
      rw [startStage, hstg, hfull]

/-- The last tick of the iteration samples, from the pins of its last stage. -/
theorem stepAnim_last_within (hpos : ∀ st ∈ stagesOf P, 1 ≤ st.wait) (h : Within P v R k a)
    (hk : k + 1 = totalWait P) (w : σ) :
    stepAnim prog code3 w true a = sampleAnim prog code3 w a ∧ ∃ i, i + 1 = (stagesOf P).length ∧ R i a.lit := by
  obtain ⟨i, st, l, hst, hlo, hhi, hl, rfl⟩ := h
  have hsucc := waitBefore_succ hst
  have hle := waitBefore_le_totalWait P (i + 1)
  have hstg := stg_toNat_of_stageAt hlen hst
  cases hnext : stageAt P (i + 1) with
  | none =>
    rw [stepAnim_last rfl (timer_at_stage_end hhi (by omega)),
      endStage_of_last_stage hP (by rw [hstg]; exact hnext)]
    exact ⟨rfl, i, (last_stage hst hnext).1, hl⟩
  | some st' =>
    have hpos' := hpos st' (mem_stagesOf_of_stageAt hnext)
    have hsucc' := waitBefore_succ hnext
    have hle' := waitBefore_le_totalWait P (i + 1 + 1)
    omega

/-- Cycles within the iteration: their tick strobes alone say where the animator stands after them. -/
theorem runAnim_within (hpos : ∀ st ∈ stagesOf P, 1 ≤ st.wait)
    (hR : ∀ i st l, stageAt P (i + 1) = some st → R i l → R (i + 1) (runActions st.actions l))
    {cycles : List (Bool × σ)} (h : Within P v R k a) (hk : k + ticksIn cycles < totalWait P) :
    ∃ d, runAnim prog code3 cycles a = .ok d ∧ Within P v R (k + ticksIn cycles) d := by
  induction cycles generalizing k a with
  | nil => exact ⟨a, rfl, h⟩
  | cons c cycles ih =>
    obtain ⟨tick, w⟩ := c
    cases tick with
    | false =>
      rw [ticksIn_noTick] at hk ⊢
      rw [runAnim_noTick h.ph_cur.1]
      exact ih h hk
    | true =>
      rw [ticksIn_tick, Nat.add_comm (ticksIn cycles), ← Nat.add_assoc] at hk ⊢
      obtain ⟨b, hb, hwithin⟩ := stepAnim_within (code3 := code3) hP hlen hpos hR h (by omega) w
      rw [runAnim_of_step hb]
      exact ih hwithin hk

end

end

/-! ## The two obligations -/

/-- Settles O35. After the sample the animator is 0 strobes into its iteration, with the pins of stage 0; the cycles
take it as far as they have strobes. -/
theorem iterationLastsItsTotalWait : Obligations.IterationLastsItsTotalWait := by
  intro σ prog code3 v a
  refine ⟨fun hph _ => stepAnim_first hph, fun hph => stepAnim_noTick hph,
    fun b P hP hpos hlen hb cycles => ?_⟩
  have hR : ∀ i st l, stageAt P (i + 1) = some st → l = pinsAfter P (i + 1) a.lit →
      runActions st.actions l = pinsAfter P (i + 1 + 1) a.lit := by
    rintro i st l hst rfl
    exact (pinsAfter_succ hst a.lit).symm
  have hstart : Within P v (fun i l => l = pinsAfter P (i + 1) a.lit) 0 b := by
    have hb' := Except.ok.inj (hb.symm.trans (sampleAnim_of_program hP))
    have hfirst := hpos P.first List.mem_cons_self
    refine ⟨0, P.first, _, rfl, Nat.le_refl 0, by show 0 < 0 + _; omega, rfl, hb'.trans ?_⟩
    rw [show waitBefore P 0 + P.first.wait - 0 = P.first.wait from Nat.zero_add _]
    rfl
  have hrun := fun hk => runAnim_within (code3 := code3) (cycles := cycles) hP hlen hpos hR hstart hk
  rw [Nat.zero_add] at hrun
  refine ⟨fun hk => ?within, fun hk w => ?last⟩
  case within =>
    obtain ⟨d, hd, i, st, l, hst, hlo, hhi, rfl, rfl⟩ := hrun hk
    exact ⟨i, st, hst, hlo, hhi, hd⟩
  case last =>
    obtain ⟨d, hd, hwithin⟩ := hrun (by omega)
    obtain ⟨hsample, i, hi, hlit⟩ := stepAnim_last_within (code3 := code3) hP hlen hpos hwithin hk w
    rw [runAnim_append hd, runAnim_one, hsample]
    exact sampleAnim_congr (hlit.trans (by rw [hi]))

/-- The cycle of a given strobe, counted from 0. -/
theorem exists_cycle_of_tick {σ : Type} {cycles : List (Bool × σ)} {m : Nat} (h : m < ticksIn cycles) :
    ∃ before w after, cycles = before ++ (true, w) :: after ∧ ticksIn before = m := by
  induction cycles generalizing m with
  | nil => cases h
  | cons c cycles ih =>
    obtain ⟨tick, w⟩ := c
    cases tick with
    | false =>
      rw [ticksIn_noTick] at h
      obtain ⟨before, x, after, rfl, hm⟩ := ih h
      exact ⟨(false, w) :: before, x, after, rfl, by rw [ticksIn_noTick, hm]⟩
    | true =>
      cases m with
      | zero => exact ⟨[], w, cycles, rfl, rfl⟩
      | succ m =>
        rw [ticksIn_tick] at h
        obtain ⟨before, x, after, rfl, hm⟩ := ih (Nat.lt_of_succ_lt_succ h)
        exact ⟨(true, w) :: before, x, after, rfl, by rw [ticksIn_tick, hm]⟩

theorem ticksIn_take_le {σ : Type} (cycles : List (Bool × σ)) (m : Nat) : ticksIn (cycles.take m) ≤ ticksIn cycles :=
  (List.take_sublist m cycles).countP_le

/-- Any place in a stage is some strobes after a sample, the pins being left open. -/
theorem exists_within {σ : Type} {P : Program} {a : Anim σ} {st : Stage} (hph : a.ph = .wait)
    (hst : stageAt P a.stg.toNat = some st) (hpos : 1 ≤ a.tmr) (hle : a.tmr ≤ st.wait) :
    ∃ k < totalWait P, Within P a.cur (fun _ _ => True) k a := by
  obtain ⟨k, hk⟩ : ∃ k, k + a.tmr = waitBefore P a.stg.toNat + st.wait :=
    ⟨waitBefore P a.stg.toNat + st.wait - a.tmr, by omega⟩
  have htotal := waitBefore_le_totalWait P (a.stg.toNat + 1)
  rw [waitBefore_succ hst] at htotal
  refine ⟨k, by omega, a.stg.toNat, st, a.lit, hst, by omega, by omega, trivial, ?_⟩
  rw [BitVec.ofNat_toNat, BitVec.setWidth_eq, ← hk, Nat.add_sub_cancel_left, ← hph]

/-- Settles O36. A place within the iteration is `k` strobes after its sample; of the strobes to come the one that makes
them `totalWait P` samples. -/
theorem sampleWithinOneIteration : Obligations.SampleWithinOneIteration := by
  intro σ prog code3 a P st cycles hph hP hst hpos hle hwaits hlen hticks
  obtain ⟨k, hk, hplace⟩ := exists_within hph hst hpos hle
  obtain ⟨before, w, after, rfl, hbefore⟩ :=
    exists_cycle_of_tick (cycles := cycles) (m := totalWait P - 1 - k) (by omega)
  have hwithin (m : Nat) :
      ∃ d, runAnim prog code3 (before.take m) a = .ok d ∧ Within P a.cur (fun _ _ => True)
        (k + ticksIn (before.take m)) d := by
    have hm := ticksIn_take_le before m
    exact runAnim_within hP hlen hwaits (fun _ _ _ _ _ => trivial) hplace (by omega)
  obtain ⟨d, hd, hdw⟩ := hwithin before.length
  rw [List.take_length] at hd hdw
  obtain ⟨hsample, -⟩ := stepAnim_last_within (code3 := code3) hP hlen hwaits hdw (by omega) w
  refine ⟨before.length, w, d, by simp, ?sample, fun m hm => ?latched⟩
  case sample =>
    have htake : (before ++ (true, w) :: after).take (before.length + 1) = before ++ [(true, w)] :=
      List.take_length_add_append 1
    rw [htake, runAnim_append hd, runAnim_one, hsample]
  case latched =>
    rw [List.take_append_of_le_length hm]
    obtain ⟨e, he, hew⟩ := hwithin m
    exact ⟨e, he, hew.ph_cur.2, hew.ph_cur.1⟩

end Sys2Proof.Machine
end

section
/-! Byte streams (40_frame_decoder.md section 3; 70_reset_and_hazards.md section 2): cycles that deliver bytes to a good
state in RUN do to the decoder's registers what its operations on those bytes do, one after the other. -/

namespace Sys2Proof.Machine

/-! ## Runs over byte cycles -/

/-- The decoder's operations for some bytes in turn. -/
def decodeBytes (bytes : List Byte) (s : State) : Result :=
  match bytes with
  | [] => .next s
  | b :: rest => andThen (decodeByte b s) (decodeBytes rest)

@[simp] theorem decodeBytes_nil (s : State) : decodeBytes [] s = .next s := rfl

theorem decodeBytes_cons {b : Byte} {bytes : List Byte} {s u : State} (h : decodeByte b s = .next u) :
    decodeBytes (b :: bytes) s = decodeBytes bytes u := by
  rw [decodeBytes, h, andThen_next]

theorem decodeBytes_cons_eq_next {b : Byte} {bytes : List Byte} {s u : State} :
    decodeBytes (b :: bytes) s = .next u ↔ ∃ v, decodeByte b s = .next v ∧ decodeBytes bytes v = .next u := by
  rw [decodeBytes, andThen_eq_next]

theorem decodeBytes_concat {bytes : List Byte} {b : Byte} {s u : State} (h : decodeBytes bytes s = .next u) :
    decodeBytes (bytes ++ [b]) s = decodeByte b u := by
  induction bytes generalizing s with
  | nil =>
    obtain rfl := Host.Outcome.next.inj h
    rw [List.nil_append, decodeBytes]
    cases decodeByte b s <;> rfl
  | cons c bytes ih =>
    obtain ⟨v, hv, hrest⟩ := decodeBytes_cons_eq_next.mp h
    rw [List.cons_append, decodeBytes_cons hv, ih hrest]

/-- A byte cycle in RUN is a stepping cycle. -/
theorem step_byteCycle {s : State} {b : Byte} {rest : List CycleIn} (h : BlockInv s) (hmode : s.mode = .run)
    (hstim : s.stim = byteCycle b :: rest) :
    ∃ t u, step s = .next t ∧ decodeByte b s = .next u ∧ decoderRegs t = decoderRegs u ∧ BlockInv t ∧
      t.mode = .run ∧ t.haltCause = s.haltCause ∧ t.params = s.params ∧ t.stim = rest := by
  have hin : nextInput s = byteCycle b := by rw [nextInput, hstim]; rfl
  have hrun : runStep (nextInput s) s = true := by rw [hin]; exact runStep_eq_true_iff.mpr ⟨rfl, hmode, rfl, rfl⟩
  have hcfg : cfgChanges (nextInput s) s = false := by rw [hin]; exact cfgChanges_of_cfg_none rfl s
  obtain ⟨t, hstep, hinv⟩ := runStep_keeps_inv h hrun hcfg
  obtain ⟨-, -, -, ⟨u, hu, hregs⟩, htmode, hcause, hparams, -, htstim⟩ := agentsReadStartOfCycleValues s t hrun hstep
  rw [hin] at hu
  exact ⟨t, u, hstep, hu, hregs, hinv, htmode, hcause, hparams, by rw [htstim, hstim]; rfl⟩

/-- By induction on the bytes. The decoder's operations are taken from any state `s₀` with the registers of `s`, since
the animators of a run have moved on where those of the operations alone have not. -/
theorem run_byteCycles {bytes : List Byte} {rest : List CycleIn} {s s₀ u : State} (h : BlockInv s)
    (hmode : s.mode = .run) (hstim : s.stim = bytes.map byteCycle ++ rest) (hregs : decoderRegs s = decoderRegs s₀)
    (hparams : s.params = s₀.params) (hu : decodeBytes bytes s₀ = .next u) :
    ∃ t, Host.Core.run core bytes.length s = .next t ∧ decoderRegs t = decoderRegs u ∧ t.mode = .run ∧
      t.haltCause = s.haltCause ∧ t.stim = rest := by
  induction bytes generalizing s s₀ with
  | nil =>
    obtain rfl := Host.Outcome.next.inj hu
    exact ⟨s, core_run_zero s, hregs, hmode, rfl, hstim⟩
  | cons b bytes ih =>
    obtain ⟨u₀, hu₀, hrest⟩ := decodeBytes_cons_eq_next.mp hu
    obtain ⟨t₁, u₁, hstep, hu₁, hregs₁, hinv, hmode₁, hcause₁, hparams₁, hstim₁⟩ := step_byteCycle h hmode hstim
    have hsame : decoderRegs t₁ = decoderRegs u₀ :=
      hregs₁.trans (decoderCycle_congr (rx := some b) hregs hparams hu₁ hu₀)
    have hsameParams : t₁.params = u₀.params :=
      hparams₁.trans (hparams.trans (decoderCycle_params (rx := some b) hu₀).symm)
    obtain ⟨t, hrun, hfinal, htmode, hcause, htstim⟩ := ih hinv hmode₁ hstim₁ hsame hsameParams hrest
    exact ⟨t, (core_run_succ hstep).trans hrun, hfinal, htmode, hcause.trans hcause₁, htstim⟩

/-! ## Four bytes of a frame -/

/-- FRAME overwrites `DEC_ST` and does not read it. -/
theorem exec_frame_of_decSt {s : State} (hfit : s.cntUndef < 2 ^ s.params.cntWidth) (c k : Byte) (d : DecSt) :
    exec (.frame c k) { s with decSt := d } = exec (.frame c k) s := by
  by_cases hk : k = expectedCrc c
  · rw [hk, exec_frame_expected c hfit, exec_frame_expected c (s := { s with decSt := d }) hfit]
    rfl
  · rw [exec_frame_unexpected hk, exec_frame_unexpected hk]

theorem exec_frame_completes (c k : Byte) (s : State) : ∃ u, exec (.frame c k) s = .next u := by
  by_cases hk : k = expectedCrc c
  · obtain ⟨u, hu, -⟩ := exec_frame_expected_cells c s
    exact ⟨u, hk ▸ hu⟩
  · exact ⟨_, exec_frame_unexpected hk s⟩

/-- The header, the control byte and the checksum byte, in the four states of the decoder. -/
theorem decodeBytes_frame {s : State} (hs : s.decSt = .hunt) (hfit : s.cntUndef < 2 ^ s.params.cntWidth) (c k : Byte) :
    decodeBytes [0x55#8, 0xAA#8, c, k] s = exec (.frame c k) { s with ctrlLatch := c } := by
  have hheader0 := (hdr0StartsHeader.2 s hs).2
  have hheader1 := (hdr1CompletesHeader.2 { s with decSt := .h1 } rfl).2
  have hcontrol := controlByteIsLatched c { s with decSt := .ctrl } rfl
  rw [decodeBytes_cons hheader0, decodeBytes_cons hheader1, decodeBytes_cons hcontrol,
    ← exec_frame_of_decSt (s := { s with ctrlLatch := c }) hfit c k .csum]
  obtain ⟨u, hu⟩ := exec_frame_completes c k { s with ctrlLatch := c, decSt := .csum }
  have hchecksum := (decodeByte_csum (c := c) (s := { s with ctrlLatch := c, decSt := .csum }) k rfl rfl).trans hu
  rw [decodeBytes_cons hchecksum, decodeBytes_nil, hu]

/-- Settles O53. -/
theorem fourBytesRunFrame : Obligations.FourBytesRunFrame := by
  intro s c k rest h hmode hs hstim
  obtain ⟨u, hu⟩ := exec_frame_completes c k { s with ctrlLatch := c }
  obtain ⟨t, hrun, hregs, htmode, -, htstim⟩ := run_byteCycles (bytes := [0x55#8, 0xAA#8, c, k]) h hmode hstim rfl rfl
    ((decodeBytes_frame hs h.undef_fits c k).trans hu)
  exact ⟨t, u, hrun, hu, hregs, htmode, htstim⟩

/-- Settles O56. The captured bytes are a frame with control 0x55, whose checksum is 0x74 and not 0xAA. -/
theorem strayHeaderCapturesHeader : Obligations.StrayHeaderCapturesHeader := by
  intro s rest h hmode hs hstim
  obtain ⟨t, u, hrun, hu, hregs, -, htstim⟩ := fourBytesRunFrame s 0x55#8 0xAA#8 rest h hmode hs hstim
  obtain ⟨-, -, -, hcrc, -⟩ := checksumOfKnownTexts
  have hwrong : 0xAA#8 ≠ expectedCrc 0x55#8 := by rw [hcrc]; decide
  rw [exec_frame_unexpected hwrong] at hu
  rw [← Host.Outcome.next.inj hu] at hregs
  exact ⟨t, hrun, congrArg DecoderRegs.decSt hregs, congrArg DecoderRegs.ctrlLatch hregs,
    congrArg DecoderRegs.cntCsum hregs, congrArg DecoderRegs.cntOk hregs, congrArg DecoderRegs.cntSync hregs,
    congrArg DecoderRegs.nodeSt hregs, congrArg DecoderRegs.storSt hregs, congrArg DecoderRegs.netCell hregs, htstim⟩

/-! ## The header search -/

/-- What the header search writes: `DEC_ST` and `CNT_SYNC`. -/
def searching (d : DecSt) (sync : Nat) (s : State) : State := { s with decSt := d, cntSync := sync }

theorem searching_self {s : State} {d : DecSt} (h : s.decSt = d) : searching d s.cntSync s = s := by
  rw [searching, ← h]

/-- HUNT goes to H1 with 0x55 and stays with any other byte (40_frame_decoder.md R81, R82). -/
theorem decodeByte_searching_hunt (b : Byte) (sync : Nat) (s : State) :
    ∃ sync', decodeByte b (searching .hunt sync s) =
      .next (searching (if b = 0x55#8 then .h1 else .hunt) sync' s) := by
  by_cases hb : b = 0x55#8
  · rw [if_pos hb, hb]
    exact ⟨sync, (hdr0StartsHeader.2 (searching .hunt sync s) rfl).2⟩
  · rw [if_neg hb]
    exact ⟨_, huntDiscardsAndCounts b (searching .hunt sync s) rfl hb⟩

/-- H1 goes back to the search with any byte but 0xAA (40_frame_decoder.md R84). -/
theorem decodeByte_searching_h1 {b : Byte} (hb : b ≠ 0xAA#8) (sync : Nat) (s : State) :
    ∃ sync', decodeByte b (searching .h1 sync s) =
      .next (searching (if s.params.reexamineH1 = true ∧ b = 0x55#8 then .h1 else .hunt) sync' s) :=
  ⟨_, headerMismatchResynchronises b (searching .h1 sync s) rfl hb⟩

/-- The registers that the search leaves alone, from the decoder's registers after it. -/
theorem searching_keeps {d : DecSt} {sync : Nat} {s t : State} (h : decoderRegs t = decoderRegs (searching d sync s)) :
    t.decSt = d ∧ t.ctrlLatch = s.ctrlLatch ∧ t.nodeSt = s.nodeSt ∧ t.storSt = s.storSt ∧ t.netCell = s.netCell ∧
      t.cntOk = s.cntOk ∧ t.cntCsum = s.cntCsum ∧ t.cntUndef = s.cntUndef :=
  ⟨congrArg DecoderRegs.decSt h, congrArg DecoderRegs.ctrlLatch h, congrArg DecoderRegs.nodeSt h,
    congrArg DecoderRegs.storSt h, congrArg DecoderRegs.netCell h, congrArg DecoderRegs.cntOk h,
    congrArg DecoderRegs.cntCsum h, congrArg DecoderRegs.cntUndef h⟩

/-! ## Streams without a header pair -/

theorem NoHeaderPair.of_append {xs ys : List Byte} (h : NoHeaderPair (xs ++ ys)) : NoHeaderPair xs := by
  rintro before after rfl
  exact h before (after ++ ys) (List.append_assoc ..)

theorem NoHeaderPair.take {bytes : List Byte} (h : NoHeaderPair bytes) (n : Nat) : NoHeaderPair (bytes.take n) := by
  rw [← List.take_append_drop n bytes] at h
  exact h.of_append

/-- The second byte of a header does not follow the first. -/
theorem NoHeaderPair.ne_header1 {bytes : List Byte} {b : Byte} (h : NoHeaderPair (bytes ++ [b]))
    (hlast : bytes.getLast? = some 0x55#8) : b ≠ 0xAA#8 := by
  rintro rfl
  obtain ⟨front, rfl⟩ := List.getLast?_eq_some_iff.mp hlast
  exact h front [] (by simp)

/-- By induction on the stream from its end: the decoder is in H1 only behind a 0x55, and the byte after that is not
0xAA. -/
theorem decodeBytes_of_noHeaderPair {bytes : List Byte} (hno : NoHeaderPair bytes) {s : State} (hs : s.decSt = .hunt) :
    ∃ d sync, decodeBytes bytes s = .next (searching d sync s) ∧
      (d = .hunt ∨ (d = .h1 ∧ bytes.getLast? = some 0x55#8)) := by
  induction bytes using List.reverseRecOn with
  | nil => exact ⟨.hunt, s.cntSync, by rw [searching_self hs, decodeBytes_nil], .inl rfl⟩
  | append_singleton bytes b ih =>
    obtain ⟨d, sync, hbytes, hd⟩ := ih hno.of_append
    rw [decodeBytes_concat hbytes, List.getLast?_concat]
    rcases hd with rfl | ⟨rfl, hlast⟩
    · obtain ⟨sync', hb⟩ := decodeByte_searching_hunt b sync s
      refine ⟨_, sync', hb, ?_⟩
      by_cases h55 : b = 0x55#8 <;> simp [h55]
    · obtain ⟨sync', hb⟩ := decodeByte_searching_h1 (hno.ne_header1 hlast) sync s
      refine ⟨_, sync', hb, ?_⟩
      by_cases hre : s.params.reexamineH1 = true ∧ b = 0x55#8 <;> simp [hre]

/-- Settles O54. The first `n` bytes have no header pair either. -/
theorem resyncWithoutHeaderPair : Obligations.ResyncWithoutHeaderPair := by
  intro bytes rest s n h hmode hs hno hstim hn
  obtain ⟨d, sync, hbytes, hd⟩ := decodeBytes_of_noHeaderPair (hno.take n) hs
  have hprefix : s.stim = (bytes.take n).map byteCycle ++ ((bytes.drop n).map byteCycle ++ rest) := by
    rw [← List.append_assoc, ← List.map_append, List.take_append_drop, hstim]
  obtain ⟨t, hrun, hregs, htmode, hcause, -⟩ := run_byteCycles h hmode hprefix rfl rfl hbytes
  rw [List.length_take_of_le hn] at hrun
  obtain ⟨hdec, hlatch, hnode, hstor, hnet, hok, hcsum, hundef⟩ := searching_keeps hregs
  rw [← hdec] at hd
  exact ⟨t, hrun, htmode, hcause, hd, hlatch, hnode, hstor, hnet, hok, hcsum, hundef⟩

/-! ## A frame behind a stray 0x55 -/

/-- Without re-examination the second 0x55 is no header byte, so `c` and `k` are searched for a header. -/
theorem decodeBytes_behind_stray {s : State} (hs : s.decSt = .hunt) (hre : s.params.reexamineH1 = false) (c k : Byte) :
    ∃ sync, decodeBytes [0x55#8, 0x55#8, 0xAA#8, c, k] s =
      .next (searching (if c = 0x55#8 then (if k = 0xAA#8 then .ctrl else .hunt)
        else if k = 0x55#8 then .h1 else .hunt) sync s) := by
  obtain ⟨m₁, h₁⟩ := decodeByte_searching_hunt 0x55#8 s.cntSync s
  obtain ⟨m₂, h₂⟩ := decodeByte_searching_h1 (b := 0x55#8) (by decide) m₁ s
  obtain ⟨m₃, h₃⟩ := decodeByte_searching_hunt 0xAA#8 m₂ s
  obtain ⟨m₄, h₄⟩ := decodeByte_searching_hunt c m₃ s
  rw [searching_self hs, if_pos rfl] at h₁
  rw [hre, if_neg (by decide)] at h₂
  rw [if_neg (by decide)] at h₃
  rw [decodeBytes_cons h₁, decodeBytes_cons h₂, decodeBytes_cons h₃, decodeBytes_cons h₄]
  by_cases hc : c = 0x55#8
  · rw [if_pos hc, if_pos hc]
    by_cases hk : k = 0xAA#8
    · rw [if_pos hk, hk]
      exact ⟨m₄, decodeBytes_cons (hdr1CompletesHeader.2 (searching .h1 m₄ s) rfl).2⟩
    · obtain ⟨m₅, h₅⟩ := decodeByte_searching_h1 hk m₄ s
      rw [hre, if_neg (by simp)] at h₅
      rw [if_neg hk]
      exact ⟨m₅, decodeBytes_cons h₅⟩
  · obtain ⟨m₅, h₅⟩ := decodeByte_searching_hunt k m₄ s
    rw [if_neg hc, if_neg hc]
    exact ⟨m₅, decodeBytes_cons h₅⟩

/-- Settles O55. -/
theorem frameBehindStrayByteIsLost : Obligations.FrameBehindStrayByteIsLost := by
  intro s c k rest h hmode hs hre hstim
  obtain ⟨sync, hbytes⟩ := decodeBytes_behind_stray hs hre c k
  obtain ⟨t, hrun, hregs, -⟩ :=
    run_byteCycles (bytes := [0x55#8, 0x55#8, 0xAA#8, c, k]) h hmode hstim rfl rfl hbytes
  obtain ⟨hdec, hlatch, hnode, hstor, hnet, hok, hcsum, hundef⟩ := searching_keeps hregs
  exact ⟨t, hrun, hnode, hstor, hnet, hok, hcsum, hundef, hlatch, hdec⟩

end Sys2Proof.Machine
end
